-- ==== Sys2Proof/Word.lean ====
section
/-! DEFINITION. The two word types of the machine (00_scope.md R6, 30_encoding.md R90). -/

namespace Sys2Proof

/-- The 64-bit value a general-purpose register or a System register holds (R20, R78). -/
abbrev Word := BitVec 64

/-- One 32-bit instruction word (R90). Bit 0 is the least significant bit (R6). -/
abbrev InstrWord := BitVec 32

end Sys2Proof
end

