-- ==== Sys2Proof/Config.lean ====
section
/-! DEFINITION. What an implementation fixes (00_scope.md R4), and the free values, which no source fixes. -/

namespace Sys2Proof

/-- The four Exception levels (60_exceptions.md R214; encoded by R23). -/
inductive EL where
  | el0 | el1 | el2 | el3
  deriving DecidableEq, Repr

/-- The Security states D3 names (10_state.md R50). -/
inductive Security where
  | secure | nonSecure | realm
  deriving DecidableEq, Repr

/-- The behaviours 40_pmxevcntr.md R114 permits for a CONSTRAINED UNPREDICTABLE access, in its order. -/
inductive CuChoice where
  | undefined
  | razWi
  | nop
  /-- As if SEL held an unknown accessible value; the number is reduced modulo the number of accessible counters. -/
  | unknownSel (k : Nat)
  | trapEL2
  deriving DecidableEq, Repr, Inhabited

/-- What PSTATE.SS may hold after leaving Debug state (42_dspsr.md R187, item 1). -/
inductive SsChoice where
  | previous | saved | zero
  deriving DecidableEq, Repr, Inhabited

/-- The implementation parameters of 00_scope.md R4. A machine carries its own value of them, which no step changes. -/
structure Config where
  featPMUv3 : Bool
  featPMUv3p5 : Bool
  featPMUv3p9 : Bool
  featFGT : Bool
  haveEL2 : Bool
  haveEL3 : Bool
  /-- NUM_PMU_COUNTERS, 0 to 31 (D26). -/
  numCounters : Fin 32
  /-- The IMPLEMENTATION DEFINED Boolean "EL3 trap priority when SDD == '1'" (I3). -/
  el3TrapPrioritySdd : Bool
  featPMUv3EXT : Bool
  featPMUv3EXT32 : Bool
  featPMUv3EXT64 : Bool
  featPMUv3TH : Bool
  featPMUv3p8 : Bool
  featRME : Bool
  featSEL2 : Bool
  /-- "Secure and Non-secure states are implemented". -/
  secureAndNonSecure : Bool
  /-- "Secure EL2 is implemented". -/
  secureEL2 : Bool
  /-- Whether PMCCFILTR_EL0.VS exists: its condition was lost (I17). -/
  hasVS : Bool
  /-- Whether PMCCFILTR_EL0.T exists (I17). -/
  hasT : Bool
  /-- Whether PMCCFILTR_EL0.NSH exists (I17). -/
  hasNSH : Bool
  featDIT : Bool
  featSSBS : Bool
  featPAN : Bool
  featCSRE : Bool
  featMTE : Bool
  featUAO : Bool
  featBTI : Bool
  /-- "AArch32 is supported at any Exception level". -/
  aarch32Supported : Bool
  /-- "AArch64 is supported at any Exception level". -/
  aarch64Supported : Bool
  bigEndian : Bool
  littleEndian : Bool
  /-- PMU_BASE (D14). -/
  pmuBase : Nat
  /-- The switch that removes the PMU agent (R220, D7); false on hardware. -/
  countersFrozen : Bool
  /-- HPMN_OUT_OF_RANGE (D10): the number of accessible counters when MDCR_EL2.HPMN exceeds the implemented
  ones; `none` refuses such a state, as R43 does unless told otherwise. -/
  hpmnOutOfRange : Option Nat
  /-- A Warm or Cold reset is to an Exception level that is using AArch32 (R31, D18). -/
  resetToAArch32 : Bool
  deriving DecidableEq, Repr

/-- FREE VALUE (log 8): which permitted behaviour the `n`-th draw takes, CU_CHOICE of R4. -/
opaque Config.cuChoice : Nat → CuChoice

/-- FREE VALUE (log 25): which of its three possible values PSTATE.SS takes at the `n`-th draw. -/
opaque Config.ssChoice : Nat → SsChoice

/-- FREE VALUE (log 6): the program counter after `pc` when `pc + 4` does not fit in 64 bits; no source says. -/
opaque Config.pcWrap : Word → Word

end Sys2Proof
end

