-- ==== Sys2Proof/Syntax.lean ====
section
/-! DEFINITION. The six instructions (30_encoding.md R93) and the triple a word carries (R92). -/

namespace Sys2Proof

/-- MRS reads a System register, MSR writes it (30_encoding.md R92). -/
inductive Direction where
  | read | write
  deriving DecidableEq, Repr

/-- A point of the System register encoding space (20_memory.md R71). -/
structure SysPoint where
  op0 : BitVec 2
  op1 : BitVec 3
  crn : BitVec 4
  crm : BitVec 4
  op2 : BitVec 3
  deriving DecidableEq, Repr

/-- What the sources fix of an instruction: direction, point and register operand (30_encoding.md R92). -/
structure SysAccess where
  dir : Direction
  point : SysPoint
  t : BitVec 5
  deriving DecidableEq, Repr

/-- The instructions in scope, one constructor per row of the opcode table; `t` is the number of `<Xt>`. -/
inductive Instr where
  /-- `MRS <Xt>, PMXEVCNTR_EL0` (R110). -/
  | mrsPmxevcntr (t : Nat)
  /-- `MSR PMXEVCNTR_EL0, <Xt>` (R111). -/
  | msrPmxevcntr (t : Nat)
  /-- `MRS <Xt>, PMXEVTYPER_EL0` (R150). -/
  | mrsPmxevtyper (t : Nat)
  /-- `MSR PMXEVTYPER_EL0, <Xt>` (R151). -/
  | msrPmxevtyper (t : Nat)
  /-- `MRS <Xt>, DSPSR_EL0` (R180). -/
  | mrsDspsr (t : Nat)
  /-- `MSR DSPSR_EL0, <Xt>` (R181). -/
  | msrDspsr (t : Nat)
  deriving DecidableEq, Repr

/-- The register operand of an instruction. -/
def Instr.operand : Instr → Nat
  | .mrsPmxevcntr t => t
  | .msrPmxevcntr t => t
  | .mrsPmxevtyper t => t
  | .msrPmxevtyper t => t
  | .mrsDspsr t => t
  | .msrDspsr t => t

end Sys2Proof
end

