-- ==== Sys2Proof/WellFormed.lean ====
section
/-! DEFINITION. Which instructions and which configurations are well formed. -/

namespace Sys2Proof

/-- The operand of an instruction is a 5-bit register number, 0 to 31 (10_state.md R20). -/
def Instr.wellFormed (i : Instr) : Bool := decide (i.operand < 32)

/-- `FEAT_PMUv3pN` presupposes `FEAT_PMUv3` (00_scope.md R5, D19). -/
def Config.featuresWellFormed (c : Config) : Bool :=
  (!(c.featPMUv3p5 || c.featPMUv3p8 || c.featPMUv3p9)) || c.featPMUv3

/-- Some byte order is supported: DSPSR_EL0.E cannot be RES0 and RES1 at once (10_state.md R47). -/
def Config.endianWellFormed (c : Config) : Bool := c.bigEndian || c.littleEndian

/-- A reset can be to an Exception level using AArch32 only where AArch32 is supported. -/
def Config.resetWellFormed (c : Config) : Bool := !c.resetToAArch32 || c.aarch32Supported

/-- The configurations the spec admits. -/
def Config.wellFormed (c : Config) : Bool :=
  c.featuresWellFormed && c.endianWellFormed && c.resetWellFormed

end Sys2Proof
end

