-- ==== Sys2Proof/Decode.lean ====
section
/-! DEFINITION. From a 32-bit word to an instruction or a rejection by name, and back (30_encoding.md). -/

namespace Sys2Proof

/-- What a word decodes to (30_encoding.md R93, R96). -/
inductive Decoded where
  | instr (i : Instr)
  /-- The word matches no row of R93. -/
  | unknown (w : InstrWord)
  deriving DecidableEq, Repr

/-- The point of PMXEVCNTR_EL0 (20_memory.md R72). -/
def pointPmxevcntr : SysPoint := { op0 := 0b11, op1 := 0b011, crn := 0b1001, crm := 0b1101, op2 := 0b010 }

/-- The point of PMXEVTYPER_EL0 (20_memory.md R72). -/
def pointPmxevtyper : SysPoint := { op0 := 0b11, op1 := 0b011, crn := 0b1001, crm := 0b1101, op2 := 0b001 }

/-- The point of DSPSR_EL0 (20_memory.md R72). -/
def pointDspsr : SysPoint := { op0 := 0b11, op1 := 0b011, crn := 0b0100, crm := 0b0101, op2 := 0b000 }

/-- The fields of a word in the System register access format (R91), `none` where a fixed bit differs. -/
def decodeFields (w : InstrWord) : Option SysAccess :=
  if w.extractLsb' 22 10 = 0b1101010100#10 ∧ w.getLsbD 20 = true then
    some
      { dir := if w.getLsbD 21 then .read else .write
        point :=
          { op0 := if w.getLsbD 19 then 0b11 else 0b10
            op1 := w.extractLsb' 16 3
            crn := w.extractLsb' 12 4
            crm := w.extractLsb' 8 4
            op2 := w.extractLsb' 5 3 }
        t := w.extractLsb' 0 5 }
  else none

/-- The instruction a triple names (R72, R92): `none` at a point outside the spec. -/
def instrOfAccess (a : SysAccess) : Option Instr :=
  if a.point = pointPmxevcntr then
    match a.dir with
    | .read => some (.mrsPmxevcntr a.t.toNat)
    | .write => some (.msrPmxevcntr a.t.toNat)
  else if a.point = pointPmxevtyper then
    match a.dir with
    | .read => some (.mrsPmxevtyper a.t.toNat)
    | .write => some (.msrPmxevtyper a.t.toNat)
  else if a.point = pointDspsr then
    match a.dir with
    | .read => some (.mrsDspsr a.t.toNat)
    | .write => some (.msrDspsr a.t.toNat)
  else none

/-- The decoder: total, and every word of no row is rejected as `unknown` (R96). -/
def decode (w : InstrWord) : Decoded :=
  match (decodeFields w).bind instrOfAccess with
  | some i => .instr i
  | none => .unknown w

/-- The triple of an instruction (R92); the same point serves both directions (R71). -/
def accessOf : Instr → SysAccess
  | .mrsPmxevcntr t => { dir := .read, point := pointPmxevcntr, t := BitVec.ofNat 5 t }
  | .msrPmxevcntr t => { dir := .write, point := pointPmxevcntr, t := BitVec.ofNat 5 t }
  | .mrsPmxevtyper t => { dir := .read, point := pointPmxevtyper, t := BitVec.ofNat 5 t }
  | .msrPmxevtyper t => { dir := .write, point := pointPmxevtyper, t := BitVec.ofNat 5 t }
  | .mrsDspsr t => { dir := .read, point := pointDspsr, t := BitVec.ofNat 5 t }
  | .msrDspsr t => { dir := .write, point := pointDspsr, t := BitVec.ofNat 5 t }

/-- The word of a triple: 0b1101010100, L, 1, op0 minus 2, op1, CRn, CRm, op2, Rt from bit 31 down (R91). -/
def encodeFields (a : SysAccess) : InstrWord :=
  0b1101010100#10 ++ BitVec.ofBool (decide (a.dir = .read)) ++ 1#1 ++ a.point.op0.extractLsb' 0 1
    ++ a.point.op1 ++ a.point.crn ++ a.point.crm ++ a.point.op2 ++ a.t

/-- The encoder: the word of an instruction (R91, R93). -/
def encode (i : Instr) : InstrWord := encodeFields (accessOf i)

/-- The instruction of a row of the opcode table whose bits are `w`. The spec gives instruction words as
numbers, never as bytes (20_memory.md R76), so no byte order enters. -/
def decodeTableWord (nbits w : Nat) : Option Instr :=
  if nbits ≤ 32 then
    match decode (BitVec.ofNat 32 (w % 2 ^ nbits)) with
    | .instr i => some i
    | .unknown _ => none
  else none

end Sys2Proof
end

