-- ==== Sys2Proof/Machine/State.lean ====
section
/-! DEFINITION. The state of the machine as plain data, the reasons a step can stop, and the state after reset. -/

namespace Sys2Proof.Machine

/-- PSTATE (10_state.md R22). The fields `q`, `ge`, `it`, `t`, `e`, `m` exist in AArch32 state only. -/
structure PState where
  n : Bool
  z : Bool
  c : Bool
  v : Bool
  q : Bool
  ge : BitVec 4
  it : BitVec 8
  t : Bool
  e : Bool
  m : BitVec 4
  nRW : Bool
  el : EL
  sp : Bool
  d : Bool
  a : Bool
  i : Bool
  f : Bool
  ss : Bool
  il : Bool
  pan : Bool
  dit : Bool
  ssbs : Bool
  uao : Bool
  tco : Bool
  btype : BitVec 2
  csr : Bool
  deriving DecidableEq, Repr

/-- The fields of PMUSERENR_EL0 the access rules read (R34). -/
structure Pmuserenr where
  en : Bool
  er : Bool
  uen : Bool
  cr : Bool
  deriving DecidableEq, Repr

/-- The fields of PMUACR_EL1 the access rules read (R35): `P<n>`, one bit per event counter, and `C`. -/
structure Pmuacr where
  p : BitVec 31
  c : Bool
  deriving DecidableEq, Repr

/-- The fields of HCR_EL2 the access rules read (R36). -/
structure HcrEl2 where
  tge : Bool
  e2h : Bool
  deriving DecidableEq, Repr

/-- The fields of MDCR_EL2 the access rules read (R37). -/
structure MdcrEl2 where
  tpm : Bool
  hpmn : BitVec 5
  deriving DecidableEq, Repr

/-- The fields of HDFGRTR_EL2 and of HDFGWTR_EL2 the access rules read (R40, R41). The `n` is part of the name. -/
structure FineTraps where
  pmevcntrn : Bool
  pmevtypern : Bool
  deriving DecidableEq, Repr

/-- The registers named only as controls (10_state.md section 4), each field as a separate value (N22). -/
structure Controls where
  /-- PMSELR_EL0.SEL (R28). -/
  pmselrSel : BitVec 5
  pmuserenr : Pmuserenr
  pmuacr : Pmuacr
  hcrEl2 : HcrEl2
  mdcrEl2 : MdcrEl2
  /-- MDCR_EL3.TPM (R38). -/
  mdcrEl3Tpm : Bool
  /-- SCR_EL3.FGTEn (R39). -/
  scrEl3Fgten : Bool
  /-- HDFGRTR_EL2 (R40). -/
  hdfgrtrEl2 : FineTraps
  /-- HDFGWTR_EL2 (R41). -/
  hdfgwtrEl2 : FineTraps
  /-- EDSCR.SDD (R42). -/
  edscrSdd : Bool
  /-- The Boolean behind `EL2Enabled()` (R44): EL2 is enabled in the current Security state. -/
  el2On : Bool
  deriving DecidableEq, Repr

/-- The architectural state, everything the spec gives the machine. -/
structure Arch where
  /-- X0 to X30 (R20). -/
  x : Vector Word 31
  /-- The program counter (R21). -/
  pc : Word
  pstate : PState
  /-- PMEVCNTR<n>_EL0 (R27); elements at and above NUM_PMU_COUNTERS do not exist and are held as 0. -/
  evcntr : Vector Word 31
  /-- PMEVTYPER<n>_EL0 (R30); elements at and above NUM_PMU_COUNTERS do not exist and are held as 0. -/
  evtyper : Vector Word 31
  /-- PMCCFILTR_EL0 (R31), the one storage behind its three names (R32). -/
  pmccfiltr : Word
  /-- PMCCNTR_EL0, an opaque number (R49). -/
  pmccntr : Nat
  /-- DSPSR_EL0 (R46). -/
  dspsr : Word
  ctl : Controls
  /-- `Halted()` (R45). -/
  halted : Bool
  /-- The current Security state (R50). -/
  security : Security
  deriving DecidableEq, Repr

/-- A move of an agent (60_exceptions.md R229). -/
inductive HostMove where
  /-- An instruction word, supplied by the run outside Debug state and by the debugger inside it. -/
  | supply (w : InstrWord)
  /-- The debugger enters Debug state (R186). -/
  | enterDebug
  /-- The debugger leaves Debug state (R187, R188). -/
  | exitDebug
  /-- `ExtRead` of `bits` bits at an address (R75). -/
  | extRead (addr bits : Nat)
  /-- `ExtWrite` of `bits` bits of `value` at an address (R75). -/
  | extWrite (addr bits : Nat) (value : Word)
  /-- The PMU replaces event counter `n` by a value (R220). -/
  | pmuCount (n : Nat) (value : Word)
  /-- The PMU replaces the cycle counter by a value where its mode is not filtered (R221, R222). -/
  | pmuCycle (value : Nat)
  /-- A Warm reset; `start` is the draw of everything the sources leave open (R240 to R242). -/
  | warmReset (start : Arch)
  /-- A Cold reset (R241). -/
  | coldReset (start : Arch)
  /-- An External debug reset (R241). -/
  | externalDebugReset (start : Arch)
  /-- Other software changes the named-only controls (R229, last row). -/
  | setControls (c : Controls)
  deriving DecidableEq, Repr

/-- The whole state: the architectural state and the model's own fields. -/
structure State extends Arch where
  /-- The implementation parameters (00_scope.md R4); no step changes them. -/
  cfg : Config
  /-- The moves the agents will make, next first (D1, R229). -/
  inputs : List HostMove
  /-- How many free values have been drawn. -/
  draws : Nat
  /-- What the last external read returned, zero-extended (R75). -/
  extReadData : Word
  /-- `ExtAccessAllowed(off, is_write)` as the pairs it allows (R75, D24). -/
  extAllowed : List (Nat × Bool)
  deriving DecidableEq, Repr

/-- The two exceptional outcomes (60_exceptions.md R200, R203). Both end the run with no register transfer (R205). -/
inductive Fault where
  /-- The instruction is UNDEFINED (R200). Raised by the six meanings. Safe: the run ends. -/
  | undefined
  /-- The access is trapped to `target` with code 0x18 (R203); `iss` is the syndrome of R204. Raised by the
  meanings of the four PMU instructions. Safe: the run ends. -/
  | systemAccessTrap (target : EL) (code : Nat) (iss : BitVec 25)
  deriving DecidableEq, Repr

/-- The situations the spec gives no meaning. Every one is safe: nothing is proved of what happens there. -/
inductive Refusal where
  /-- An instruction the model does not treat. Raised by `exec` only; no arm raises it. Safe. -/
  | notModelled (mnemonic : String)
  /-- The supplied word matches no row of R93 (R96). Raised by the fetch. Safe. -/
  | unknownWord (w : InstrWord)
  /-- No agent has a move waiting, so there is no instruction to execute (D1). Raised by the step. Safe. -/
  | noMoveWaiting
  /-- EL2 is enabled, MDCR_EL2.HPMN exceeds the implemented counters and the configuration gives no effective value:
  the state the spec refuses (R43, D10, C11). Raised by the step in such a state, by a Debug state exit or a change of
  the controls that would leave one, and by the four PMU meanings where they consult the number. Safe. -/
  | hpmnOutOfRange
  /-- Entry from AArch32 state, which no source describes (N17). Raised by Debug state entry. Safe. -/
  | enterFromAArch32
  /-- Entry while in Debug state. Raised by Debug state entry. Safe. -/
  | alreadyHalted
  /-- Exit while not in Debug state. Raised by Debug state exit. Safe. -/
  | notHalted
  /-- The layout of DSPSR_EL0 the move needs does not apply in this implementation (R47, R48). Raised by Debug
  state entry and exit. Safe. -/
  | layoutAbsent
  /-- The exit is an illegal return event, described in no source (R187, R188, N19, D23). Raised by Debug state
  exit. Safe. -/
  | illegalReturn (m : BitVec 4)
  /-- The exit is to AArch32 state, which is outside the model (R188, D18); `p` is the PSTATE its copies give.
  Raised by Debug state exit. Safe. -/
  | exitToAArch32 (p : PState)
  /-- The address or the size of an external access is no row of R74 (R77, D13). Raised by the external moves. Safe. -/
  | extNoSuchAccess (addr bits : Nat)
  /-- The row of R74 is not present in this implementation. Raised by the external moves. Safe. -/
  | extNotPresent
  /-- Offset 0xA7C where accesses are IMPLEMENTATION DEFINED (R74, I4). Raised by the external moves. Safe. -/
  | extImplementationDefined
  /-- The access is not allowed (R75, D24). Raised by the external moves. Safe. -/
  | extNotAllowed
  /-- The PMU move names an event counter that is not implemented (R220). Raised by that move. Safe. -/
  | noSuchCounter (n : Nat)
  /-- The start state of a reset breaks a constraint the spec puts on every state (R23, R27, R43, D5, D22). Raised by
  the reset moves. Safe. -/
  | illegalStartState
  deriving DecidableEq, Repr

/-- What a meaning or a move answers. -/
abbrev Result := Host.Outcome State Fault Refusal

/-- PSTATE with every field 0 (DESIGN CHOICE, log 4: no source gives a reset value). -/
def PState.zero : PState where
  n := false
  z := false
  c := false
  v := false
  q := false
  ge := 0
  it := 0
  t := false
  e := false
  m := 0
  nRW := false
  el := .el0
  sp := false
  d := false
  a := false
  i := false
  f := false
  ss := false
  il := false
  pan := false
  dit := false
  ssbs := false
  uao := false
  tco := false
  btype := 0
  csr := false

/-- Every control field 0 (DESIGN CHOICE, log 4). -/
def Controls.zero : Controls where
  pmselrSel := 0
  pmuserenr := { en := false, er := false, uen := false, cr := false }
  pmuacr := { p := 0, c := false }
  hcrEl2 := { tge := false, e2h := false }
  mdcrEl2 := { tpm := false, hpmn := 0 }
  mdcrEl3Tpm := false
  scrEl3Fgten := false
  hdfgrtrEl2 := { pmevcntrn := false, pmevtypern := false }
  hdfgwtrEl2 := { pmevcntrn := false, pmevtypern := false }
  edscrSdd := false
  el2On := false

/-- The architectural state after reset (70_reset_and_hazards.md R242; log 4). -/
def Arch.reset : Arch where
  x := Vector.replicate 31 0
  pc := 0
  pstate := PState.zero
  evcntr := Vector.replicate 31 0
  evtyper := Vector.replicate 31 0
  pmccfiltr := 0
  pmccntr := 0
  dspsr := 0
  ctl := Controls.zero
  halted := false
  security := .nonSecure

/-- The base configuration of 95_test_vectors.md section 2, with every optional field of PMCCFILTR_EL0 and
DSPSR_EL0 present (DESIGN CHOICE, log 3). -/
def baseConfig : Config where
  featPMUv3 := true
  featPMUv3p5 := true
  featPMUv3p9 := false
  featFGT := true
  haveEL2 := true
  haveEL3 := true
  numCounters := 6
  el3TrapPrioritySdd := false
  featPMUv3EXT := true
  featPMUv3EXT32 := true
  featPMUv3EXT64 := true
  featPMUv3TH := true
  featPMUv3p8 := true
  featRME := true
  featSEL2 := true
  secureAndNonSecure := true
  secureEL2 := true
  hasVS := true
  hasT := true
  hasNSH := true
  featDIT := true
  featSSBS := true
  featPAN := true
  featCSRE := true
  featMTE := true
  featUAO := true
  featBTI := true
  aarch32Supported := true
  aarch64Supported := true
  bigEndian := true
  littleEndian := true
  pmuBase := 0
  countersFrozen := false
  hpmnOutOfRange := none
  resetToAArch32 := false

/-- The machine right after reset (R242): no move is waiting (log 1). -/
def State.reset : State where
  toArch := Arch.reset
  cfg := baseConfig
  inputs := []
  draws := 0
  extReadData := 0
  extAllowed := []

end Sys2Proof.Machine
end

