-- ==== Sys2Proof/Machine/Operands.lean ====
section
/-! DEFINITION. The one operand form, a general-purpose register, and the named updates of the state. -/

namespace Sys2Proof.Machine

/-- `x[t]` read: the register, or 0 when `t` is 31, the zero register (10_state.md R20). -/
def State.readX (s : State) (t : Nat) : Word := if t < 31 then (s.x[t]?).getD 0 else 0

/-- `x[t] <- v`: the register is replaced; when `t` is 31 the value is discarded (10_state.md R20). -/
def State.setX (s : State) (t : Nat) (v : Word) : State :=
  if t < 31 then { s with x := s.x.setIfInBounds t v } else s

/-- `pc <- v`. -/
def State.setPc (s : State) (v : Word) : State := { s with pc := v }

/-- `PMEVCNTR_EL0[n] <- v`, all 64 bits of the storage. -/
def State.setEvcntr (s : State) (n : Nat) (v : Word) : State :=
  { s with evcntr := s.evcntr.setIfInBounds n v }

/-- `PMEVTYPER_EL0[n] <- v`: all 64 bits are stored (10_state.md R30). -/
def State.setEvtyper (s : State) (n : Nat) (v : Word) : State :=
  { s with evtyper := s.evtyper.setIfInBounds n v }

/-- PMCCFILTR_EL0 replaced, all 64 bits of the storage. -/
def State.setPmccfiltr (s : State) (v : Word) : State := { s with pmccfiltr := v }

/-- PMCCNTR_EL0 replaced. -/
def State.setPmccntr (s : State) (v : Nat) : State := { s with pmccntr := v }

/-- DSPSR_EL0 replaced, all 64 bits of the storage. -/
def State.setDspsr (s : State) (v : Word) : State := { s with dspsr := v }

/-- PSTATE replaced. -/
def State.setPstate (s : State) (p : PState) : State := { s with pstate := p }

/-- `Halted()` replaced. -/
def State.setHalted (s : State) (h : Bool) : State := { s with halted := h }

/-- The named-only controls replaced. -/
def State.setCtl (s : State) (c : Controls) : State := { s with ctl := c }

/-- One free value has been drawn. -/
def State.bumpDraws (s : State) : State := { s with draws := s.draws + 1 }

/-- What the last external read returned. -/
def State.setExtReadData (s : State) (v : Word) : State := { s with extReadData := v }

/-- The queue of moves replaced. -/
def State.setInputs (s : State) (q : List HostMove) : State := { s with inputs := q }

/-- The architectural state replaced, the model's own fields kept. -/
def State.setArch (s : State) (a : Arch) : State := { s with toArch := a }

/-- The storage of PMEVCNTR_EL0[n]. -/
def State.rawEvcntr (s : State) (n : Nat) : Word := (s.evcntr[n]?).getD 0

/-- PMEVTYPER_EL0[n], all 64 bits (10_state.md R30). -/
def State.readEvtyper (s : State) (n : Nat) : Word := (s.evtyper[n]?).getD 0

end Sys2Proof.Machine
end

