-- ==== Sys2Proof/Machine/Flags.lean ====
section
/-! DEFINITION. PSTATE and its saved copy: the two layouts of DSPSR_EL0 (10_state.md R47, R48), Res0Mask (42_dspsr.md
R183) and the copies of Debug state entry and exit (R186 to R188). No instruction computes a flag (R192). -/

namespace Sys2Proof.Machine

/-- The 2-bit encoding of an Exception level (10_state.md R23). -/
def elBits : EL → BitVec 2
  | .el0 => 0b00
  | .el1 => 0b01
  | .el2 => 0b10
  | .el3 => 0b11

/-- The Exception level a 2-bit field encodes (10_state.md R23). -/
def elOfBits (b : BitVec 2) : EL :=
  if b = 0b00 then .el0 else if b = 0b01 then .el1 else if b = 0b10 then .el2 else .el3

/-- The privilege order of the levels: the number of the level (10_state.md R23). -/
def elNumber (e : EL) : Nat := (elBits e).toNat

/-- A 64-bit value with `b` at bit `k` and 0 elsewhere. -/
def bitAt (b : Bool) (k : Nat) : Word := if b then 1#64 <<< k else 0#64

/-- The bits of the AArch64 layout that are not RES0 (R48, R183). -/
def dspsrKeep64 (c : Config) : Word :=
  0xF03003DF#64 ||| bitAt c.featCSRE 32 ||| bitAt c.featMTE 25 ||| bitAt c.featDIT 24 ||| bitAt c.featUAO 23
    ||| bitAt c.featPAN 22 ||| bitAt c.featSSBS 12 ||| bitAt c.featBTI 11 ||| bitAt c.featBTI 10

/-- The bits of the AArch32 layout that are not RES0 (R47, R183). -/
def dspsrKeep32 (c : Config) : Word :=
  0xFE3FFFFF#64 ||| bitAt c.featDIT 24 ||| bitAt c.featSSBS 23 ||| bitAt c.featPAN 22

/-- `Res0Mask(v)` (42_dspsr.md R183): bit 4 of `v` selects the layout. In the AArch32 layout E reads 1 where
little-endian operation is not supported, and 0 where big-endian operation is not. -/
def res0Mask (c : Config) (v : Word) : Word :=
  if v.getLsbD 4 then
    if !c.littleEndian then (v &&& dspsrKeep32 c) ||| bitAt true 9
    else if !c.bigEndian then v &&& dspsrKeep32 c &&& ~~~(bitAt true 9)
    else v &&& dspsrKeep32 c
  else v &&& dspsrKeep64 c

/-- The value DSPSR_EL0 takes on entering Debug state from AArch64 state (42_dspsr.md R186). -/
def savedPState (c : Config) (p : PState) : Word :=
  bitAt (c.featCSRE && p.csr) 32 ||| bitAt p.n 31 ||| bitAt p.z 30 ||| bitAt p.c 29 ||| bitAt p.v 28
    ||| bitAt (c.featMTE && p.tco) 25 ||| bitAt (c.featDIT && p.dit) 24 ||| bitAt (c.featUAO && p.uao) 23
    ||| bitAt (c.featPAN && p.pan) 22 ||| bitAt p.ss 21 ||| bitAt p.il 20 ||| bitAt (c.featSSBS && p.ssbs) 12
    ||| bitAt (c.featBTI && p.btype.getLsbD 1) 11 ||| bitAt (c.featBTI && p.btype.getLsbD 0) 10
    ||| bitAt p.d 9 ||| bitAt p.a 8 ||| bitAt p.i 7 ||| bitAt p.f 6
    ||| bitAt ((elBits p.el).getLsbD 1) 3 ||| bitAt ((elBits p.el).getLsbD 0) 2 ||| bitAt p.sp 0

/-- PSTATE.SS after leaving Debug state: an open value among the old one, the saved one and 0 (R187 item 1, D23). -/
def ssAfterExit (choice : SsChoice) (previous saved : Bool) : Bool :=
  match choice with
  | .previous => previous
  | .saved => saved
  | .zero => false

/-- PSTATE after leaving Debug state to AArch64 state (42_dspsr.md R187): every field of R186 is copied back; a
field whose feature is absent does not exist and is left. -/
def restoredPState (c : Config) (choice : SsChoice) (w : Word) (p : PState) : PState :=
  { p with
    n := w.getLsbD 31
    z := w.getLsbD 30
    c := w.getLsbD 29
    v := w.getLsbD 28
    nRW := w.getLsbD 4
    el := elOfBits (w.extractLsb' 2 2)
    sp := w.getLsbD 0
    d := w.getLsbD 9
    a := w.getLsbD 8
    i := w.getLsbD 7
    f := w.getLsbD 6
    ss := ssAfterExit choice p.ss (w.getLsbD 21)
    il := w.getLsbD 20
    pan := if c.featPAN then w.getLsbD 22 else p.pan
    dit := if c.featDIT then w.getLsbD 24 else p.dit
    ssbs := if c.featSSBS then w.getLsbD 12 else p.ssbs
    uao := if c.featUAO then w.getLsbD 23 else p.uao
    tco := if c.featMTE then w.getLsbD 25 else p.tco
    btype := if c.featBTI then w.extractLsb' 10 2 else p.btype
    csr := if c.featCSRE then w.getLsbD 32 else p.csr }

/-- PSTATE after the copies of an exit to AArch32 state (42_dspsr.md R188, layout of 10_state.md R47). -/
def restoredPState32 (c : Config) (w : Word) (p : PState) : PState :=
  { p with
    n := w.getLsbD 31
    z := w.getLsbD 30
    c := w.getLsbD 29
    v := w.getLsbD 28
    q := w.getLsbD 27
    ge := w.extractLsb' 16 4
    it := w.extractLsb' 10 6 ++ w.extractLsb' 25 2
    t := w.getLsbD 5
    e := w.getLsbD 9
    m := w.extractLsb' 0 4
    nRW := w.getLsbD 4
    a := w.getLsbD 8
    i := w.getLsbD 7
    f := w.getLsbD 6
    ss := w.getLsbD 21
    il := w.getLsbD 20
    pan := if c.featPAN then w.getLsbD 22 else p.pan
    dit := if c.featDIT then w.getLsbD 24 else p.dit
    ssbs := if c.featSSBS then w.getLsbD 23 else p.ssbs }

/-- M[3:0] in the AArch64 layout: not reserved, and of an implemented Exception level (R48, R187 item 2). -/
def modeLegal64 (c : Config) (m : BitVec 4) : Bool :=
  m == 0b0000 || m == 0b0100 || m == 0b0101
    || (c.haveEL2 && (m == 0b1000 || m == 0b1001))
    || (c.haveEL3 && (m == 0b1100 || m == 0b1101))

/-- M[3:0] in the AArch32 layout is not reserved (R47). -/
def modeListed32 (m : BitVec 4) : Bool :=
  m == 0b0000 || m == 0b0001 || m == 0b0010 || m == 0b0011 || m == 0b0110 || m == 0b0111
    || m == 0b1010 || m == 0b1011 || m == 0b1111

end Sys2Proof.Machine
end

