-- ==== Sys2Proof/Machine/Filter.lean ====
section
/-! DEFINITION. PMCCFILTR_EL0: its fields, which of its bits exist, and the cycle filter (10_state.md R31,
60_exceptions.md R222). Bit positions below bit 26 and above bit 31 are PRESUMED (D16, log 16). -/

namespace Sys2Proof.Machine

/-- PMCCFILTR_EL0.P, EL1 filtering. -/
def filterP (f : Word) : Bool := f.getLsbD 31
/-- PMCCFILTR_EL0.U, EL0 filtering. -/
def filterU (f : Word) : Bool := f.getLsbD 30
/-- PMCCFILTR_EL0.NSK, Non-secure EL1 filtering. -/
def filterNSK (f : Word) : Bool := f.getLsbD 29
/-- PMCCFILTR_EL0.NSU, Non-secure EL0 filtering. -/
def filterNSU (f : Word) : Bool := f.getLsbD 28
/-- PMCCFILTR_EL0.NSH, EL2 filtering. -/
def filterNSH (f : Word) : Bool := f.getLsbD 27
/-- PMCCFILTR_EL0.M, EL3 filtering. -/
def filterM (f : Word) : Bool := f.getLsbD 26
/-- PMCCFILTR_EL0.SH, Secure EL2 filtering. -/
def filterSH (f : Word) : Bool := f.getLsbD 24
/-- PMCCFILTR_EL0.RLK, Realm EL1 filtering. -/
def filterRLK (f : Word) : Bool := f.getLsbD 22
/-- PMCCFILTR_EL0.RLU, Realm EL0 filtering. -/
def filterRLU (f : Word) : Bool := f.getLsbD 21
/-- PMCCFILTR_EL0.RLH, Realm EL2 filtering. -/
def filterRLH (f : Word) : Bool := f.getLsbD 20

/-- The bits of PMCCFILTR_EL0 that are not RES0 in a configuration: VS [57:56], P, U, NSK, NSU, NSH, M, SH, T, RLK,
RLU, RLH (R31; which fields exist: log 16). -/
def pmccfiltrKeep (c : Config) : Word :=
  bitAt c.hasVS 57 ||| bitAt c.hasVS 56 ||| bitAt true 31 ||| bitAt true 30
    ||| bitAt c.secureAndNonSecure 29 ||| bitAt c.secureAndNonSecure 28 ||| bitAt c.hasNSH 27 ||| bitAt c.haveEL3 26
    ||| bitAt (c.featSEL2 && c.secureEL2) 24 ||| bitAt c.hasT 23
    ||| bitAt c.featRME 22 ||| bitAt c.featRME 21 ||| bitAt c.featRME 20

/-- `PMCCFILTR_EL0 <- v`: RES0 bits stay 0 (41_pmxevtyper.md R151, D5). -/
def State.writePmccfiltr (s : State) (v : Word) : State := s.setPmccfiltr (v &&& pmccfiltrKeep s.cfg)

/-- `CycleFiltered(el, ss)`: the PE does not count cycles. Reading B of R222, which the spec adopts (D15, log 17):
the base bit governs its own Security state, the comparison alone governs the others. -/
def cycleFiltered (f : Word) (el : EL) (ss : Security) : Bool :=
  match el, ss with
  | .el0, .secure => filterU f
  | .el0, .nonSecure => filterU f != filterNSU f
  | .el0, .realm => filterU f != filterRLU f
  | .el1, .secure => filterP f
  | .el1, .nonSecure => filterP f != filterNSK f
  | .el1, .realm => filterP f != filterRLK f
  | .el2, .nonSecure => !filterNSH f
  | .el2, .secure => filterNSH f == filterSH f
  | .el2, .realm => filterNSH f == filterRLH f
  | .el3, _ => filterM f != filterP f

/-- Reading A of R222, which the spec does not adopt: every mechanism that says "does not count" wins. It enters
no step; statements compare it with the adopted reading. -/
def cycleFilteredReadingA (f : Word) (el : EL) (ss : Security) : Bool :=
  match el with
  | .el0 => filterU f || (ss == .nonSecure && filterNSU f != filterU f) || (ss == .realm && filterRLU f != filterU f)
  | .el1 => filterP f || (ss == .nonSecure && filterNSK f != filterP f) || (ss == .realm && filterRLK f != filterP f)
  | .el2 => !filterNSH f || (ss == .secure && filterSH f == filterNSH f) || (ss == .realm && filterRLH f == filterNSH f)
  | .el3 => filterM f != filterP f

end Sys2Proof.Machine
end

