-- ==== Sys2Proof/Machine/Ops.lean ====
section
/-! DEFINITION. The shared operations: the two exceptional outcomes, the program counter, the predicates of
40_pmxevcntr.md R112, the check chain of 60_exceptions.md R210 and the CONSTRAINED UNPREDICTABLE outcomes of R114. -/

namespace Sys2Proof.Machine

/-- `raise Undefined`: a terminal outcome, nothing else happens (60_exceptions.md R200, R205). -/
def raiseUndefined : Result := .fault .undefined

/-- The code of every trap of these accesses (60_exceptions.md R203). -/
def trapCode : Nat := 0x18

/-- The syndrome of a trapped access (60_exceptions.md R204; PRESUMED, log 11): [24:22] zero, op0 [21:20], op2 [19:17],
op1 [16:14], CRn [13:10], Rt [9:5], CRm [4:1], Direction [0], 1 for a read. -/
def syndrome (a : SysAccess) : BitVec 25 :=
  0#3 ++ a.point.op0 ++ a.point.op2 ++ a.point.op1 ++ a.point.crn ++ a.t ++ a.point.crm
    ++ BitVec.ofBool (decide (a.dir = .read))

/-- TAKING A TRAP: `raise SystemAccessTrap(target, 0x18)`, a terminal outcome, nothing else happens
(60_exceptions.md R203, R205). No source describes exception entry or return (R211, R212). -/
def raiseSystemAccessTrap (target : EL) (iss : BitVec 25) : Result := .fault (.systemAccessTrap target trapCode iss)

/-- `pc + 4` (10_state.md R21); beyond 64 bits the sum is a free value (log 6). -/
def nextPc (pc : Word) : Word := if pc.toNat + 4 < 2 ^ 64 then pc + 4 else Config.pcWrap pc

/-- Completion of an instruction: `pc <- pc + 4`, and in Debug state the pc is left alone (10_state.md R21, D17). -/
def State.advance (s : State) : State := if s.halted then s else s.setPc (nextPc s.pc)

/-- `UInt(PMSELR_EL0.SEL)` (10_state.md R28, 43_common_semantics.md R190). -/
def State.sel (s : State) : Nat := s.ctl.pmselrSel.toNat

/-- `HaveEL(e)`: EL0 and EL1 always exist (60_exceptions.md R214). -/
def haveEL (c : Config) : EL → Bool
  | .el0 => true
  | .el1 => true
  | .el2 => c.haveEL2
  | .el3 => c.haveEL3

/-- `EL2Enabled()` in an architectural state (10_state.md R44): implies HaveEL(EL2), and holds at EL2 (D9, log 13). -/
def Arch.el2Enabled (c : Config) (a : Arch) : Bool := c.haveEL2 && (a.ctl.el2On || a.pstate.el == .el2)

/-- `EL2Enabled()` (10_state.md R44). -/
def State.el2Enabled (s : State) : Bool := Arch.el2Enabled s.cfg s.toArch

/-- R43 refuses the architectural state: EL2Enabled() with MDCR_EL2.HPMN above the implemented counters and no
HPMN_OUT_OF_RANGE given (D10, log 12). -/
def Arch.hpmnRefused (c : Config) (a : Arch) : Bool :=
  Arch.el2Enabled c a && decide (c.numCounters.val < a.ctl.mdcrEl2.hpmn.toNat) && c.hpmnOutOfRange.isNone

/-- R43 refuses the state. -/
def State.hpmnRefused (s : State) : Bool := Arch.hpmnRefused s.cfg s.toArch

/-- A move that would leave a state R43 refuses is refused; any other goes on (R43, D10, log 12). -/
def nextIfAdmitted (s : State) : Result := if s.hpmnRefused then .refused .hpmnOutOfRange else .next s

/-- `NumAccessible()` (10_state.md R43). `none` is the state the spec refuses: MDCR_EL2.HPMN above the implemented
counters with no HPMN_OUT_OF_RANGE given (D10, log 12). -/
def State.numAccessible (s : State) : Option Nat :=
  if s.el2Enabled && (s.pstate.el == .el0 || s.pstate.el == .el1) then
    if s.ctl.mdcrEl2.hpmn.toNat ≤ s.cfg.numCounters.val then some s.ctl.mdcrEl2.hpmn.toNat
    else s.cfg.hpmnOutOfRange.map (fun n => min n s.cfg.numCounters.val)
  else some s.cfg.numCounters.val

/-- `SDDUndef` (40_pmxevcntr.md R112). -/
def State.sddUndef (s : State) : Bool := s.halted && s.ctl.edscrSdd

/-- `SDDPrio` (40_pmxevcntr.md R112). -/
def State.sddPrio (s : State) : Bool :=
  s.halted && s.cfg.haveEL3 && s.ctl.edscrSdd && s.cfg.el3TrapPrioritySdd && s.ctl.mdcrEl3Tpm

/-- `FGTActive` (40_pmxevcntr.md R112). -/
def State.fgtActive (s : State) : Bool := s.cfg.featFGT && (!s.cfg.haveEL3 || s.ctl.scrEl3Fgten)

/-- `UENEnables` (40_pmxevcntr.md R112): UEN reads as 0 without FEAT_PMUv3p9 (R34, D6, log 14). -/
def State.uenEnables (s : State) : Bool := s.cfg.featPMUv3p9 && s.ctl.pmuserenr.uen

/-- `ELIsInHost(EL0)`, used under `EL2Enabled()` only (41_pmxevtyper.md R153). -/
def State.elIsInHost (s : State) : Bool := s.ctl.hcrEl2.e2h && s.ctl.hcrEl2.tge

/-- `PMUACR_EL1.P<n>` (10_state.md R35). -/
def State.pmuacrP (s : State) (n : Nat) : Bool := s.ctl.pmuacr.p.getLsbD n

/-- Where a CONSTRAINED UNPREDICTABLE access arises: arm A or arm F (40_pmxevcntr.md R114). -/
inductive CuWhere where
  | top | guest
  deriving DecidableEq, Repr

/-- What the check chain decides for an access. -/
inductive Verdict where
  | undefined
  | trap (target : EL)
  | unpredictable (w : CuWhere)
  /-- The number of accessible counters is needed and the spec refuses the state (R43). -/
  | hpmnRefused
  /-- Arm H: read-as-zero, or write-ignored. -/
  | ignored
  /-- Arm I, or I31: the access is made. -/
  | perform
  deriving DecidableEq, Repr

/-- In what the four PMU instructions differ for the check chain. -/
structure PmuQuery where
  /-- PMXEVTYPER_EL0 with SEL 31: exempt from arms A and F (41_pmxevtyper.md R152). -/
  exempt : Bool
  /-- Arm C: the EL0 access is not enabled. -/
  el0Disabled : Bool
  /-- Arm D: the fine-grained trap bit of the access. -/
  fineTrap : Bool
  /-- Arm H: the EL0 access is read-as-zero, or write-ignored. -/
  el0Ignored : Bool
  deriving DecidableEq, Repr

/-- Arm G, then `rest` (60_exceptions.md R210 item 7). -/
def checkEL3Trap (s : State) (rest : Verdict) : Verdict :=
  if s.cfg.haveEL3 && s.ctl.mdcrEl3Tpm then
    if s.sddUndef then .undefined else .trap .el3
  else rest

/-- Arms D, E, F, then `rest` (R210 items 4 to 6); `fine` is arm D's condition past `EL2Enabled()`. -/
def checkEL2Traps (q : PmuQuery) (fine : Bool) (s : State) (rest : Verdict) : Verdict :=
  if s.el2Enabled && fine then .trap .el2
  else if s.el2Enabled && s.ctl.mdcrEl2.tpm then .trap .el2
  else if s.el2Enabled && !q.exempt then
    match s.numAccessible with
    | none => .hpmnRefused
    | some n =>
      if n ≤ s.sel then
        if s.cfg.featFGT then .trap .el2 else .unpredictable .guest
      else rest
  else rest

/-- The check chain of the four PMU instructions: the first condition that holds decides (60_exceptions.md R210,
40_pmxevcntr.md R120). -/
def checkPmuAccess (q : PmuQuery) (s : State) : Verdict :=
  if !s.cfg.featPMUv3 then .undefined
  else if !q.exempt && decide (s.cfg.numCounters.val ≤ s.sel) then
    if s.cfg.featFGT then .undefined else .unpredictable .top
  else
    match s.pstate.el with
    | .el0 =>
      if s.sddPrio then .undefined
      else if q.el0Disabled then
        if s.el2Enabled && s.ctl.hcrEl2.tge then .trap .el2 else .trap .el1
      else
        checkEL2Traps q (!s.elIsInHost && s.fgtActive && q.fineTrap) s
          (checkEL3Trap s (if q.el0Ignored then .ignored else .perform))
    | .el1 =>
      if s.sddPrio then .undefined
      else checkEL2Traps q (s.fgtActive && q.fineTrap) s (checkEL3Trap s .perform)
    | .el2 => if s.sddPrio then .undefined else checkEL3Trap s .perform
    | .el3 => .perform

/-- What an access does once it is let through: with `k` in place of the selector (arm I), or as RAZ/WI (arm H). -/
structure PmuEffect where
  iss : BitVec 25
  ignored : State → State
  perform : Nat → State → State

/-- `ConstrainedUnpredictable(PMUEVENTCOUNTER, where)` under one choice (40_pmxevcntr.md R114). Behaviour 4 needs an
accessible counter and behaviour 5 needs arm F; a choice that is not available falls to behaviour 1, which
always is (log 8). -/
def constrainedUnpredictable (choice : CuChoice) (w : CuWhere) (e : PmuEffect) (s : State) : Result :=
  match choice with
  | .undefined => raiseUndefined
  | .razWi => .next (e.ignored s).advance.bumpDraws
  | .nop => .next s.advance.bumpDraws
  | .unknownSel k =>
    match s.numAccessible with
    | none => .refused .hpmnOutOfRange
    | some 0 => raiseUndefined
    | some (n + 1) => .next (e.perform (k % (n + 1)) s).advance.bumpDraws
  | .trapEL2 =>
    match w with
    | .top => raiseUndefined
    | .guest => raiseSystemAccessTrap .el2 e.iss

/-- The outcome of an access under a verdict. The CONSTRAINED UNPREDICTABLE choice is drawn afresh at each access. -/
def finishPmuAccess (e : PmuEffect) (v : Verdict) (s : State) : Result :=
  match v with
  | .undefined => raiseUndefined
  | .trap target => raiseSystemAccessTrap target e.iss
  | .unpredictable w => constrainedUnpredictable (Config.cuChoice s.draws) w e s
  | .hpmnRefused => .refused .hpmnOutOfRange
  | .ignored => .next (e.ignored s).advance
  | .perform => .next (e.perform s.sel s).advance

end Sys2Proof.Machine
end

