-- ==== Sys2Proof/Machine/Debug.lean ====
section
/-! DEFINITION. The debugger's moves: entering and leaving Debug state (42_dspsr.md R186 to R188). -/

namespace Sys2Proof.Machine

/-- Entering Debug state from AArch64 state (R186): PSTATE is written to DSPSR_EL0, then Halted() is true; PSTATE and
the pc keep their values (log 24). -/
def enterDebug (s : State) : Result :=
  if s.halted then .refused .alreadyHalted
  else if s.pstate.nRW then .refused .enterFromAArch32
  else if !s.cfg.aarch64Supported then .refused .layoutAbsent
  else .next ((s.setDspsr (savedPState s.cfg s.pstate)).setHalted true)

/-- Leaving Debug state to AArch64 state (R187) under one choice of PSTATE.SS; an exit to EL2 can leave a state that R43
refuses, and is then refused (log 12). -/
def exitToAArch64 (choice : SsChoice) (s : State) : Result :=
  if !s.cfg.aarch64Supported then .refused .layoutAbsent
  else if !modeLegal64 s.cfg (s.dspsr.extractLsb' 0 4) then .refused (.illegalReturn (s.dspsr.extractLsb' 0 4))
  else nextIfAdmitted ((s.setPstate (restoredPState s.cfg choice s.dspsr s.pstate)).setHalted false).bumpDraws

/-- Leaving Debug state to AArch32 state (R188): always refused (D18); the refusal carries the PSTATE the copies give. -/
def exitToAArch32 (s : State) : Result :=
  if !s.cfg.aarch32Supported then .refused .layoutAbsent
  else if !modeListed32 (s.dspsr.extractLsb' 0 4) then .refused (.illegalReturn (s.dspsr.extractLsb' 0 4))
  else .refused (.exitToAArch32 (restoredPState32 s.cfg s.dspsr s.pstate))

/-- Leaving Debug state: DSPSR_EL0[4] selects the Execution state returned to (R182). -/
def exitDebug (s : State) : Result :=
  if !s.halted then .refused .notHalted
  else if s.dspsr.getLsbD 4 then exitToAArch32 s
  else exitToAArch64 (Config.ssChoice s.draws) s

end Sys2Proof.Machine
end

