-- ==== Sys2Proof/Machine/External.lean ====
section
/-! DEFINITION. The external agent's moves on PMCCFILTR_EL0 in the PMU block (20_memory.md R73 to R75, R77). -/

namespace Sys2Proof.Machine

/-- The rows of R74: the part of PMCCFILTR_EL0 an access reaches. -/
inductive ExtView where
  | low | whole | high
  deriving DecidableEq, Repr

/-- The row of R74 an offset and a size name; only an exact pair does (R77, D13). -/
def extViewOf (off bits : Nat) : Option ExtView :=
  if off = 0x47C ∧ bits = 32 then some .low
  else if off = 0x4F8 ∧ bits = 64 then some .whole
  else if off = 0xA7C ∧ bits = 32 then some .high
  else none

/-- The offset in the PMU block of an address: the offsets of R74 are from PMU_BASE (R73, D14). -/
def pmuOffset (c : Config) (addr : Nat) : Option Nat := if c.pmuBase ≤ addr then some (addr - c.pmuBase) else none

/-- The bits of a row of R74, zero-extended (R75). -/
def extValue (v : ExtView) (w : Word) : Word :=
  match v with
  | .low => (w.extractLsb' 0 32).setWidth 64
  | .whole => w
  | .high => (w.extractLsb' 32 32).setWidth 64

/-- The register with exactly the bits of a row replaced (R75); for a 32-bit row the low 32 bits of `d` are written. -/
def extReplaced (v : ExtView) (w d : Word) : Word :=
  match v with
  | .low => w.extractLsb' 32 32 ++ d.extractLsb' 0 32
  | .whole => d
  | .high => d.extractLsb' 0 32 ++ w.extractLsb' 0 32

/-- Whether a row of R74 is present, and the refusal where it is not: 0x47C with FEAT_PMUv3_EXT32, 0x4F8 with
FEAT_PMUv3_EXT64, 0xA7C with FEAT_PMUv3_EXT32 and (FEAT_PMUv3_TH or FEAT_PMUv3p8), else IMPLEMENTATION DEFINED (I4). -/
def extAbsent (c : Config) (v : ExtView) : Option Refusal :=
  match v with
  | .low => if c.featPMUv3EXT32 then none else some .extNotPresent
  | .whole => if c.featPMUv3EXT64 then none else some .extNotPresent
  | .high => if c.featPMUv3EXT32 && (c.featPMUv3TH || c.featPMUv3p8) then none else some .extImplementationDefined

/-- What an external access meets (R74, R75): the row it names where it is let through, `res0` where the external
view does not exist, or a refusal. -/
inductive ExtVerdict where
  | reach (v : ExtView)
  | res0
  | refuse (r : Refusal)
  deriving DecidableEq, Repr

/-- `ExtAccessAllowed(off, is_write)` (R75, D24). -/
def State.extAccessAllowed (s : State) (off : Nat) (isWrite : Bool) : Bool := s.extAllowed.contains (off, isWrite)

/-- The checks of an external access in order: an exact row (R77); FEAT_PMUv3_EXT, without which the access is RES0
(R74); the row's own condition; the permission (R75). -/
def checkExtAccess (s : State) (addr bits : Nat) (isWrite : Bool) : ExtVerdict :=
  match pmuOffset s.cfg addr with
  | none => .refuse (.extNoSuchAccess addr bits)
  | some off =>
    match extViewOf off bits with
    | none => .refuse (.extNoSuchAccess addr bits)
    | some v =>
      if !s.cfg.featPMUv3EXT then .res0
      else
        match extAbsent s.cfg v with
        | some r => .refuse r
        | none => if s.extAccessAllowed off isWrite then .reach v else .refuse .extNotAllowed

/-- `ExtRead(off, n)` (R75): the bits the row assigns; 0 without FEAT_PMUv3_EXT (R74). -/
def extRead (addr bits : Nat) (s : State) : Result :=
  match checkExtAccess s addr bits false with
  | .reach v => .next (s.setExtReadData (extValue v s.pmccfiltr))
  | .res0 => .next (s.setExtReadData 0)
  | .refuse r => .refused r

/-- `ExtWrite(off, n, v)` (R75): exactly the row's bits are replaced, RES0 bits stay 0; ignored without
FEAT_PMUv3_EXT (R74). -/
def extWrite (addr bits : Nat) (value : Word) (s : State) : Result :=
  match checkExtAccess s addr bits true with
  | .reach v => .next (s.writePmccfiltr (extReplaced v s.pmccfiltr value))
  | .res0 => .next s
  | .refuse r => .refused r

end Sys2Proof.Machine
end

