-- ==== Sys2Proof/Machine/Dspsr.lean ====
section
/-! DEFINITION. `MRS <Xt>, DSPSR_EL0` and `MSR DSPSR_EL0, <Xt>` (42_dspsr.md R180, R181). -/

namespace Sys2Proof.Machine

/-- `MRS <Xt>, DSPSR_EL0` (R180): UNDEFINED outside Debug state, at every Exception level. -/
def execMrsDspsr (t : Nat) (s : State) : Result :=
  if !s.halted then raiseUndefined else .next (s.setX t s.dspsr).advance

/-- `MSR DSPSR_EL0, <Xt>` (R181): UNDEFINED outside Debug state, at every Exception level; the value is stored
through Res0Mask (R183) and is not checked otherwise. -/
def execMsrDspsr (t : Nat) (s : State) : Result :=
  if !s.halted then raiseUndefined else .next (s.setDspsr (res0Mask s.cfg (s.readX t))).advance

end Sys2Proof.Machine
end

