-- ==== Sys2Proof/Machine/Pmxevcntr.lean ====
section
/-! DEFINITION. `MRS <Xt>, PMXEVCNTR_EL0` and `MSR PMXEVCNTR_EL0, <Xt>` (40_pmxevcntr.md R110, R111). -/

namespace Sys2Proof.Machine

/-- The width of a counter: 64 bits with FEAT_PMUv3p5, else 32 bits zero-extended (R25, R26, R27). -/
def counterValue (c : Config) (v : Word) : Word :=
  if c.featPMUv3p5 then v else (v.extractLsb' 0 32).setWidth 64

/-- `ReadValue(n)` (R113). -/
def State.readCounter (s : State) (n : Nat) : Word := counterValue s.cfg (s.rawEvcntr n)

/-- `PMEVCNTR_EL0[n] <- WriteValue(v)` (R113). -/
def State.writeCounter (s : State) (n : Nat) (v : Word) : State := s.setEvcntr n (counterValue s.cfg v)

/-- The conditions of R110: arm C is "ER and EN both 0, and not UENEnables", arm D is HDFGRTR_EL2.PMEVCNTRn_EL0, arm H
is UEN and not P<sel> (R116, D6). -/
def pmxevcntrReadQuery (s : State) : PmuQuery where
  exempt := false
  el0Disabled := !s.ctl.pmuserenr.er && !s.ctl.pmuserenr.en && !s.uenEnables
  fineTrap := s.ctl.hdfgrtrEl2.pmevcntrn
  el0Ignored := s.uenEnables && !s.pmuacrP s.sel

/-- The conditions of R111: arm C is "EN 0, and not UENEnables", arm D is HDFGWTR_EL2.PMEVCNTRn_EL0, arm H is UEN and
(not P<sel>, or ER) (R116, R117, D6). -/
def pmxevcntrWriteQuery (s : State) : PmuQuery where
  exempt := false
  el0Disabled := !s.ctl.pmuserenr.en && !s.uenEnables
  fineTrap := s.ctl.hdfgwtrEl2.pmevcntrn
  el0Ignored := s.uenEnables && (!s.pmuacrP s.sel || s.ctl.pmuserenr.er)

/-- What `MRS <Xt>, PMXEVCNTR_EL0` does once let through. -/
def pmxevcntrReadEffect (t : Nat) : PmuEffect where
  iss := syndrome (accessOf (.mrsPmxevcntr t))
  ignored s := s.setX t 0
  perform k s := s.setX t (s.readCounter k)

/-- What `MSR PMXEVCNTR_EL0, <Xt>` does once let through. -/
def pmxevcntrWriteEffect (t : Nat) : PmuEffect where
  iss := syndrome (accessOf (.msrPmxevcntr t))
  ignored s := s
  perform k s := s.writeCounter k (s.readX t)

/-- `MRS <Xt>, PMXEVCNTR_EL0` (R110). -/
def execMrsPmxevcntr (t : Nat) (s : State) : Result :=
  finishPmuAccess (pmxevcntrReadEffect t) (checkPmuAccess (pmxevcntrReadQuery s) s) s

/-- `MSR PMXEVCNTR_EL0, <Xt>` (R111). -/
def execMsrPmxevcntr (t : Nat) (s : State) : Result :=
  finishPmuAccess (pmxevcntrWriteEffect t) (checkPmuAccess (pmxevcntrWriteQuery s) s) s

end Sys2Proof.Machine
end

