-- ==== Sys2Proof/Machine/Pmxevtyper.lean ====
section
/-! DEFINITION. `MRS <Xt>, PMXEVTYPER_EL0` and `MSR PMXEVTYPER_EL0, <Xt>` (41_pmxevtyper.md R150, R151). -/

namespace Sys2Proof.Machine

/-- PMXEVTYPER_EL0 read with selector `n`: PMCCFILTR_EL0 when it is 31, else PMEVTYPER_EL0[n] (R152). -/
def State.readType (s : State) (n : Nat) : Word := if n = 31 then s.pmccfiltr else s.readEvtyper n

/-- PMXEVTYPER_EL0 written with selector `n` (R151, R152): PMCCFILTR_EL0 keeps its RES0 bits 0, an event type
register stores all 64 bits (R30). -/
def State.writeType (s : State) (n : Nat) (v : Word) : State :=
  if n = 31 then s.writePmccfiltr v else s.setEvtyper n v

/-- The EL0 mask bit of the selected register: PMUACR_EL1.C for SEL 31, else P<sel> (R150 arm H, R156 item 4). -/
def State.typeMaskBit (s : State) : Bool := if s.sel = 31 then s.ctl.pmuacr.c else s.pmuacrP s.sel

/-- The EL0 read-only bit of the selected register: PMUSERENR_EL0.CR for SEL 31, else ER (R151 arm H). -/
def State.typeReadOnlyBit (s : State) : Bool := if s.sel = 31 then s.ctl.pmuserenr.cr else s.ctl.pmuserenr.er

/-- The conditions of R150. -/
def pmxevtyperReadQuery (s : State) : PmuQuery where
  exempt := decide (s.sel = 31)
  el0Disabled := !s.ctl.pmuserenr.en && !s.uenEnables
  fineTrap := s.ctl.hdfgrtrEl2.pmevtypern
  el0Ignored := s.uenEnables && !s.typeMaskBit

/-- The conditions of R151. -/
def pmxevtyperWriteQuery (s : State) : PmuQuery where
  exempt := decide (s.sel = 31)
  el0Disabled := !s.ctl.pmuserenr.en && !s.uenEnables
  fineTrap := s.ctl.hdfgwtrEl2.pmevtypern
  el0Ignored := s.uenEnables && (!s.typeMaskBit || s.typeReadOnlyBit)

/-- What `MRS <Xt>, PMXEVTYPER_EL0` does once let through. -/
def pmxevtyperReadEffect (t : Nat) : PmuEffect where
  iss := syndrome (accessOf (.mrsPmxevtyper t))
  ignored s := s.setX t 0
  perform k s := s.setX t (s.readType k)

/-- What `MSR PMXEVTYPER_EL0, <Xt>` does once let through. -/
def pmxevtyperWriteEffect (t : Nat) : PmuEffect where
  iss := syndrome (accessOf (.msrPmxevtyper t))
  ignored s := s
  perform k s := s.writeType k (s.readX t)

/-- `MRS <Xt>, PMXEVTYPER_EL0` (R150); the CONSTRAINED UNPREDICTABLE set is R114's (R155, log 9). -/
def execMrsPmxevtyper (t : Nat) (s : State) : Result :=
  finishPmuAccess (pmxevtyperReadEffect t) (checkPmuAccess (pmxevtyperReadQuery s) s) s

/-- `MSR PMXEVTYPER_EL0, <Xt>` (R151); the CONSTRAINED UNPREDICTABLE set is R114's (R155, log 9). -/
def execMsrPmxevtyper (t : Nat) (s : State) : Result :=
  finishPmuAccess (pmxevtyperWriteEffect t) (checkPmuAccess (pmxevtyperWriteQuery s) s) s

end Sys2Proof.Machine
end

