-- ==== Sys2Proof/Machine/Dispatch.lean ====
section
/-! DEFINITION. The meaning of every instruction, one arm per constructor. -/

namespace Sys2Proof.Machine

def exec (i : Instr) (s : State) : Host.Outcome State Fault Refusal :=
  match i with
  | .mrsPmxevcntr t => Sys2Proof.Machine.execMrsPmxevcntr t s
  | .msrPmxevcntr t => Sys2Proof.Machine.execMsrPmxevcntr t s
  | .mrsPmxevtyper t => Sys2Proof.Machine.execMrsPmxevtyper t s
  | .msrPmxevtyper t => Sys2Proof.Machine.execMsrPmxevtyper t s
  | .mrsDspsr t => Sys2Proof.Machine.execMrsDspsr t s
  | .msrDspsr t => Sys2Proof.Machine.execMsrDspsr t s

end Sys2Proof.Machine
end

