-- ==== Sys2Proof/Machine/Fetch.lean ====
section
/-! DEFINITION. Running a supplied instruction word (20_memory.md R70, 30_encoding.md R96). -/

namespace Sys2Proof.Machine

/-- The supplied word is decoded and executed; a word of no row is refused by name (R96). -/
def runWord (w : InstrWord) (s : State) : Result :=
  match decode w with
  | .instr i => exec i s
  | .unknown u => .refused (.unknownWord u)

/-- The move that supplies the word whose bits are `w`, put in front of every other move. -/
def supplyFirst (s : State) (nbits w : Nat) : State :=
  s.setInputs (.supply (BitVec.ofNat 32 (w % 2 ^ nbits)) :: s.inputs)

end Sys2Proof.Machine
end

