-- ==== Sys2Proof/Machine/Legal.lean ====
section
/-! DEFINITION. The constraints the spec puts on every state, which a reset's start state meets and every step keeps. -/

namespace Sys2Proof.Machine

/-- The current level is implemented (10_state.md R23), EL0 has its t row only, so PSTATE.SP is 0 there (R23, R48; DEDUCED,
log 34), the PE is in AArch64 state, and Realm state needs FEAT_RME (R50). -/
abbrev Arch.ModeLegal (c : Config) (a : Arch) : Prop :=
  haveEL c a.pstate.el = true ∧ (a.pstate.el = .el0 → a.pstate.sp = false) ∧ a.pstate.nRW = false ∧ (a.security = .realm → c.featRME = true)

/-- A PSTATE field whose feature or Execution state is absent holds nothing (10_state.md R22). -/
abbrev PState.Legal (c : Config) (p : PState) : Prop :=
  (p.pan = true → c.featPAN = true) ∧ (p.dit = true → c.featDIT = true) ∧ (p.ssbs = true → c.featSSBS = true)
    ∧ (p.uao = true → c.featUAO = true) ∧ (p.tco = true → c.featMTE = true) ∧ (p.btype ≠ 0 → c.featBTI = true)
    ∧ (p.csr = true → c.featCSRE = true)
    ∧ p.q = false ∧ p.ge = 0 ∧ p.it = 0 ∧ p.t = false ∧ p.e = false ∧ p.m = 0

/-- The counters: bits [63:32] are 0 without FEAT_PMUv3p5, and an element that does not exist holds 0 (R27, R30). -/
abbrev Arch.CountersLegal (c : Config) (a : Arch) : Prop :=
  (∀ n < 31, (a.evcntr[n]?).getD 0 = counterValue c ((a.evcntr[n]?).getD 0))
    ∧ (∀ n < 31, c.numCounters.val ≤ n → (a.evcntr[n]?).getD 0 = 0 ∧ (a.evtyper[n]?).getD 0 = 0)

/-- RES0 bits hold 0 (D5): PMCCFILTR_EL0 (R31) and DSPSR_EL0 (R183). -/
abbrev Arch.Res0Legal (c : Config) (a : Arch) : Prop :=
  a.pmccfiltr &&& pmccfiltrKeep c = a.pmccfiltr ∧ res0Mask c a.dspsr = a.dspsr

/-- R43 admits the state: with EL2Enabled(), MDCR_EL2.HPMN is within the implemented counters, or an effective value
is given (D10, log 12). -/
abbrev Arch.HpmnLegal (c : Config) (a : Arch) : Prop := Arch.hpmnRefused c a = false

/-- Every constraint on an architectural state. -/
abbrev Arch.Legal (c : Config) (a : Arch) : Prop :=
  Arch.ModeLegal c a ∧ PState.Legal c a.pstate ∧ Arch.CountersLegal c a ∧ Arch.Res0Legal c a ∧ Arch.HpmnLegal c a

end Sys2Proof.Machine
end

