-- ==== Sys2Proof/Machine/Agents.lean ====
section
/-! DEFINITION. The moves of the PMU, of the platform and of other software, and the one function that makes a move
(60_exceptions.md R229). -/

namespace Sys2Proof.Machine

/-- The PMU replaces an implemented event counter by any value of its width, and nothing else; a frozen machine has
no such agent (R220, D7). -/
def pmuCount (n : Nat) (value : Word) (s : State) : Result :=
  if !decide (n < s.cfg.numCounters.val) then .refused (.noSuchCounter n)
  else if s.cfg.countersFrozen then .next s
  else .next (s.writeCounter n value)

/-- The PMU replaces the cycle counter, which it does not do while the current mode is filtered (R221, R222). -/
def pmuCycle (value : Nat) (s : State) : Result :=
  if s.cfg.countersFrozen || cycleFiltered s.pmccfiltr s.pstate.el s.security then .next s
  else .next (s.setPmccntr value)

/-- A Warm reset (R241, R242): the event counters, DSPSR_EL0 and PMCCFILTR_EL0's RW fields are UNKNOWN, and every other
register has no stated value, so all are drawn in `start`; PMCCFILTR_EL0 is 0 where the reset is to an Exception
level using AArch32. A start state no rule admits is refused. -/
def warmReset (start : Arch) (s : State) : Result :=
  if Arch.Legal s.cfg start then
    .next (s.setArch (if s.cfg.resetToAArch32 then { start with pmccfiltr := 0 } else start))
  else .refused .illegalStartState

/-- A Cold reset does what a Warm reset does (R241, G15). -/
def coldReset (start : Arch) (s : State) : Result := warmReset start s

/-- An External debug reset (R241): PMCCFILTR_EL0 is not affected; nothing is said of the others, so they are drawn. -/
def externalDebugReset (start : Arch) (s : State) : Result :=
  if Arch.Legal s.cfg start then .next (s.setArch { start with pmccfiltr := s.pmccfiltr })
  else .refused .illegalStartState

/-- Other software replaces the named-only controls by any values (R229, last row; log 29) that leave no state R43
refuses (log 12). -/
def setControls (c : Controls) (s : State) : Result := nextIfAdmitted (s.setCtl c)

/-- One move of one agent (R229). -/
def runMove (m : HostMove) (s : State) : Result :=
  match m with
  | .supply w => runWord w s
  | .enterDebug => enterDebug s
  | .exitDebug => exitDebug s
  | .extRead addr bits => extRead addr bits s
  | .extWrite addr bits value => extWrite addr bits value s
  | .pmuCount n value => pmuCount n value s
  | .pmuCycle value => pmuCycle value s
  | .warmReset start => warmReset start s
  | .coldReset start => coldReset start s
  | .externalDebugReset start => externalDebugReset start s
  | .setControls c => setControls c s

/-- The next waiting move is taken from the queue and made; with none waiting there is no instruction to execute (D1).
No run starts from a state that R43 refuses: whatever the move, it is refused (D10, log 12). -/
def runNext (s : State) : Result :=
  if s.hpmnRefused then .refused .hpmnOutOfRange
  else
    match s.inputs with
    | [] => .refused .noMoveWaiting
    | m :: rest => runMove m (s.setInputs rest)

end Sys2Proof.Machine
end

