-- ==== Sys2Proof/Machine/Step.lean ====
section
/-! DEFINITION. One step of the machine, and the state whose next step runs a given word. -/

namespace Sys2Proof.Machine

/-- One step: the next waiting move is made (60_exceptions.md R229). -/
def step (s : State) : Host.Outcome State Fault Refusal := runNext s

/-- `s` with the instruction word whose bits are `w` as the next move (log 1). -/
def State.withFetchWord (s : State) (nbits w : Nat) : State := supplyFirst s nbits w

end Sys2Proof.Machine
end

