-- ==== Sys2Proof/Machine/Pseudocode.lean ====
section
/-! DEFINITION. The access pseudocode of the four PMU instructions written out arm for arm as 40_pmxevcntr.md (R110, R111)
and 41_pmxevtyper.md (R150, R151) print it, over the fields themselves and without the shared check chain. No meaning
calls it: the statements compare the meanings with it. Arms C and H of R110 and R111 under FEAT_PMUv3p9, and
pc + 4, are decisions of the spec (D6, D2; log 14, log 5). -/

namespace Sys2Proof.Machine

/-- `EL2Enabled()` written out (10_state.md R44, D9). -/
def pseudoEL2Enabled (s : State) : Bool := s.cfg.haveEL2 && (s.ctl.el2On || decide (s.pstate.el = .el2))

/-- `NumAccessible()` written out for a state the spec does not refuse (10_state.md R43, D10). -/
def pseudoNumAccessible (s : State) : Nat :=
  if pseudoEL2Enabled s && (decide (s.pstate.el = .el0) || decide (s.pstate.el = .el1)) then
    if s.cfg.numCounters.val < s.ctl.mdcrEl2.hpmn.toNat then
      min (s.cfg.hpmnOutOfRange.getD 0) s.cfg.numCounters.val
    else s.ctl.mdcrEl2.hpmn.toNat
  else s.cfg.numCounters.val

/-- The states R43 admits: HPMN counts no more than the implemented counters, or HPMN_OUT_OF_RANGE is given. -/
abbrev HpmnAdmitted (s : State) : Prop :=
  s.ctl.mdcrEl2.hpmn.toNat ≤ s.cfg.numCounters.val ∨ s.cfg.hpmnOutOfRange.isSome = true

/-- `MRS <Xt>, PMXEVCNTR_EL0`, written out (R110). -/
def pseudoMrsPmxevcntr (t : Nat) (s : State) : Result :=
  let sel := s.ctl.pmselrSel.toNat
  let iss := syndrome (accessOf (.mrsPmxevcntr t))
  if !s.cfg.featPMUv3 then .fault .undefined
  else if decide (sel ≥ s.cfg.numCounters.val) then -- arm A
    if s.cfg.featFGT then .fault .undefined
    else constrainedUnpredictable (Config.cuChoice s.draws) .top (pmxevcntrReadEffect t) s
  else if s.pstate.el = .el0 then
    if s.halted && s.cfg.haveEL3 && s.ctl.edscrSdd && s.cfg.el3TrapPrioritySdd && s.ctl.mdcrEl3Tpm then .fault .undefined -- arm B
    else if !s.ctl.pmuserenr.er && !s.ctl.pmuserenr.en && !(s.cfg.featPMUv3p9 && s.ctl.pmuserenr.uen) then -- arm C
      if pseudoEL2Enabled s && s.ctl.hcrEl2.tge then .fault (.systemAccessTrap .el2 0x18 iss)
      else .fault (.systemAccessTrap .el1 0x18 iss)
    else if pseudoEL2Enabled s && !(s.ctl.hcrEl2.e2h && s.ctl.hcrEl2.tge) && s.cfg.featFGT && (!s.cfg.haveEL3 || s.ctl.scrEl3Fgten) && s.ctl.hdfgrtrEl2.pmevcntrn then -- arm D
      .fault (.systemAccessTrap .el2 0x18 iss)
    else if pseudoEL2Enabled s && s.ctl.mdcrEl2.tpm then -- arm E
      .fault (.systemAccessTrap .el2 0x18 iss)
    else if pseudoEL2Enabled s && decide (sel ≥ pseudoNumAccessible s) then -- arm F
      if !s.cfg.featFGT then constrainedUnpredictable (Config.cuChoice s.draws) .guest (pmxevcntrReadEffect t) s
      else .fault (.systemAccessTrap .el2 0x18 iss)
    else if s.cfg.haveEL3 && s.ctl.mdcrEl3Tpm then -- arm G
      if s.halted && s.ctl.edscrSdd then .fault .undefined else .fault (.systemAccessTrap .el3 0x18 iss)
    else if s.cfg.featPMUv3p9 && s.ctl.pmuserenr.uen && !s.ctl.pmuacr.p.getLsbD sel then -- arm H
      .next (s.setX t 0).advance
    else .next (s.setX t (s.readCounter sel)).advance -- arm I
  else if s.pstate.el = .el1 then
    if s.halted && s.cfg.haveEL3 && s.ctl.edscrSdd && s.cfg.el3TrapPrioritySdd && s.ctl.mdcrEl3Tpm then .fault .undefined -- arm B
    else if pseudoEL2Enabled s && s.cfg.featFGT && (!s.cfg.haveEL3 || s.ctl.scrEl3Fgten) && s.ctl.hdfgrtrEl2.pmevcntrn then -- arm D
      .fault (.systemAccessTrap .el2 0x18 iss)
    else if pseudoEL2Enabled s && s.ctl.mdcrEl2.tpm then -- arm E
      .fault (.systemAccessTrap .el2 0x18 iss)
    else if pseudoEL2Enabled s && decide (sel ≥ pseudoNumAccessible s) then -- arm F
      if !s.cfg.featFGT then constrainedUnpredictable (Config.cuChoice s.draws) .guest (pmxevcntrReadEffect t) s
      else .fault (.systemAccessTrap .el2 0x18 iss)
    else if s.cfg.haveEL3 && s.ctl.mdcrEl3Tpm then -- arm G
      if s.halted && s.ctl.edscrSdd then .fault .undefined else .fault (.systemAccessTrap .el3 0x18 iss)
    else .next (s.setX t (s.readCounter sel)).advance -- arm I
  else if s.pstate.el = .el2 then
    if s.halted && s.cfg.haveEL3 && s.ctl.edscrSdd && s.cfg.el3TrapPrioritySdd && s.ctl.mdcrEl3Tpm then .fault .undefined -- arm B
    else if s.cfg.haveEL3 && s.ctl.mdcrEl3Tpm then -- arm G
      if s.halted && s.ctl.edscrSdd then .fault .undefined else .fault (.systemAccessTrap .el3 0x18 iss)
    else .next (s.setX t (s.readCounter sel)).advance -- arm I
  else -- EL3
    .next (s.setX t (s.readCounter sel)).advance -- arm I

/-- `MSR PMXEVCNTR_EL0, <Xt>`, written out (R111). -/
def pseudoMsrPmxevcntr (t : Nat) (s : State) : Result :=
  let sel := s.ctl.pmselrSel.toNat
  let iss := syndrome (accessOf (.msrPmxevcntr t))
  if !s.cfg.featPMUv3 then .fault .undefined
  else if decide (sel ≥ s.cfg.numCounters.val) then -- arm A
    if s.cfg.featFGT then .fault .undefined
    else constrainedUnpredictable (Config.cuChoice s.draws) .top (pmxevcntrWriteEffect t) s
  else if s.pstate.el = .el0 then
    if s.halted && s.cfg.haveEL3 && s.ctl.edscrSdd && s.cfg.el3TrapPrioritySdd && s.ctl.mdcrEl3Tpm then .fault .undefined -- arm B
    else if !s.ctl.pmuserenr.en && !(s.cfg.featPMUv3p9 && s.ctl.pmuserenr.uen) then -- arm C
      if pseudoEL2Enabled s && s.ctl.hcrEl2.tge then .fault (.systemAccessTrap .el2 0x18 iss)
      else .fault (.systemAccessTrap .el1 0x18 iss)
    else if pseudoEL2Enabled s && !(s.ctl.hcrEl2.e2h && s.ctl.hcrEl2.tge) && s.cfg.featFGT && (!s.cfg.haveEL3 || s.ctl.scrEl3Fgten) && s.ctl.hdfgwtrEl2.pmevcntrn then -- arm D
      .fault (.systemAccessTrap .el2 0x18 iss)
    else if pseudoEL2Enabled s && s.ctl.mdcrEl2.tpm then -- arm E
      .fault (.systemAccessTrap .el2 0x18 iss)
    else if pseudoEL2Enabled s && decide (sel ≥ pseudoNumAccessible s) then -- arm F
      if !s.cfg.featFGT then constrainedUnpredictable (Config.cuChoice s.draws) .guest (pmxevcntrWriteEffect t) s
      else .fault (.systemAccessTrap .el2 0x18 iss)
    else if s.cfg.haveEL3 && s.ctl.mdcrEl3Tpm then -- arm G
      if s.halted && s.ctl.edscrSdd then .fault .undefined else .fault (.systemAccessTrap .el3 0x18 iss)
    else if s.cfg.featPMUv3p9 && s.ctl.pmuserenr.uen && (!s.ctl.pmuacr.p.getLsbD sel || s.ctl.pmuserenr.er) then -- arm H
      .next s.advance
    else .next (s.writeCounter sel (s.readX t)).advance -- arm I
  else if s.pstate.el = .el1 then
    if s.halted && s.cfg.haveEL3 && s.ctl.edscrSdd && s.cfg.el3TrapPrioritySdd && s.ctl.mdcrEl3Tpm then .fault .undefined -- arm B
    else if pseudoEL2Enabled s && s.cfg.featFGT && (!s.cfg.haveEL3 || s.ctl.scrEl3Fgten) && s.ctl.hdfgwtrEl2.pmevcntrn then -- arm D
      .fault (.systemAccessTrap .el2 0x18 iss)
    else if pseudoEL2Enabled s && s.ctl.mdcrEl2.tpm then -- arm E
      .fault (.systemAccessTrap .el2 0x18 iss)
    else if pseudoEL2Enabled s && decide (sel ≥ pseudoNumAccessible s) then -- arm F
      if !s.cfg.featFGT then constrainedUnpredictable (Config.cuChoice s.draws) .guest (pmxevcntrWriteEffect t) s
      else .fault (.systemAccessTrap .el2 0x18 iss)
    else if s.cfg.haveEL3 && s.ctl.mdcrEl3Tpm then -- arm G
      if s.halted && s.ctl.edscrSdd then .fault .undefined else .fault (.systemAccessTrap .el3 0x18 iss)
    else .next (s.writeCounter sel (s.readX t)).advance -- arm I
  else if s.pstate.el = .el2 then
    if s.halted && s.cfg.haveEL3 && s.ctl.edscrSdd && s.cfg.el3TrapPrioritySdd && s.ctl.mdcrEl3Tpm then .fault .undefined -- arm B
    else if s.cfg.haveEL3 && s.ctl.mdcrEl3Tpm then -- arm G
      if s.halted && s.ctl.edscrSdd then .fault .undefined else .fault (.systemAccessTrap .el3 0x18 iss)
    else .next (s.writeCounter sel (s.readX t)).advance -- arm I
  else -- EL3
    .next (s.writeCounter sel (s.readX t)).advance -- arm I

/-- `MRS <Xt>, PMXEVTYPER_EL0`, written out (R150). -/
def pseudoMrsPmxevtyper (t : Nat) (s : State) : Result :=
  let sel := s.ctl.pmselrSel.toNat
  let iss := syndrome (accessOf (.mrsPmxevtyper t))
  if !s.cfg.featPMUv3 then .fault .undefined
  else if !decide (sel = 31) && decide (sel ≥ s.cfg.numCounters.val) then -- arm A
    if s.cfg.featFGT then .fault .undefined
    else constrainedUnpredictable (Config.cuChoice s.draws) .top (pmxevtyperReadEffect t) s
  else if s.pstate.el = .el0 then
    if s.halted && s.cfg.haveEL3 && s.ctl.edscrSdd && s.cfg.el3TrapPrioritySdd && s.ctl.mdcrEl3Tpm then .fault .undefined -- arm B
    else if !s.ctl.pmuserenr.en && (!s.cfg.featPMUv3p9 || !s.ctl.pmuserenr.uen) then -- arm C
      if pseudoEL2Enabled s && s.ctl.hcrEl2.tge then .fault (.systemAccessTrap .el2 0x18 iss)
      else .fault (.systemAccessTrap .el1 0x18 iss)
    else if pseudoEL2Enabled s && !(s.ctl.hcrEl2.e2h && s.ctl.hcrEl2.tge) && s.cfg.featFGT && (!s.cfg.haveEL3 || s.ctl.scrEl3Fgten) && s.ctl.hdfgrtrEl2.pmevtypern then -- arm D
      .fault (.systemAccessTrap .el2 0x18 iss)
    else if pseudoEL2Enabled s && s.ctl.mdcrEl2.tpm then -- arm E
      .fault (.systemAccessTrap .el2 0x18 iss)
    else if pseudoEL2Enabled s && !decide (sel = 31) && decide (sel ≥ pseudoNumAccessible s) then -- arm F
      if !s.cfg.featFGT then constrainedUnpredictable (Config.cuChoice s.draws) .guest (pmxevtyperReadEffect t) s
      else .fault (.systemAccessTrap .el2 0x18 iss)
    else if s.cfg.haveEL3 && s.ctl.mdcrEl3Tpm then -- arm G
      if s.halted && s.ctl.edscrSdd then .fault .undefined else .fault (.systemAccessTrap .el3 0x18 iss)
    else if s.cfg.featPMUv3p9 && s.ctl.pmuserenr.uen && ((!decide (sel = 31) && !s.ctl.pmuacr.p.getLsbD sel) || (decide (sel = 31) && !s.ctl.pmuacr.c)) then -- arm H
      .next (s.setX t 0).advance
    else if sel = 31 then .next (s.setX t s.pmccfiltr).advance -- arm I31
    else .next (s.setX t (s.readEvtyper sel)).advance -- arm I
  else if s.pstate.el = .el1 then
    if s.halted && s.cfg.haveEL3 && s.ctl.edscrSdd && s.cfg.el3TrapPrioritySdd && s.ctl.mdcrEl3Tpm then .fault .undefined -- arm B
    else if pseudoEL2Enabled s && s.cfg.featFGT && (!s.cfg.haveEL3 || s.ctl.scrEl3Fgten) && s.ctl.hdfgrtrEl2.pmevtypern then -- arm D
      .fault (.systemAccessTrap .el2 0x18 iss)
    else if pseudoEL2Enabled s && s.ctl.mdcrEl2.tpm then -- arm E
      .fault (.systemAccessTrap .el2 0x18 iss)
    else if pseudoEL2Enabled s && !decide (sel = 31) && decide (sel ≥ pseudoNumAccessible s) then -- arm F
      if !s.cfg.featFGT then constrainedUnpredictable (Config.cuChoice s.draws) .guest (pmxevtyperReadEffect t) s
      else .fault (.systemAccessTrap .el2 0x18 iss)
    else if s.cfg.haveEL3 && s.ctl.mdcrEl3Tpm then -- arm G
      if s.halted && s.ctl.edscrSdd then .fault .undefined else .fault (.systemAccessTrap .el3 0x18 iss)
    else if sel = 31 then .next (s.setX t s.pmccfiltr).advance -- arm I31
    else .next (s.setX t (s.readEvtyper sel)).advance -- arm I
  else if s.pstate.el = .el2 then
    if s.halted && s.cfg.haveEL3 && s.ctl.edscrSdd && s.cfg.el3TrapPrioritySdd && s.ctl.mdcrEl3Tpm then .fault .undefined -- arm B
    else if s.cfg.haveEL3 && s.ctl.mdcrEl3Tpm then -- arm G
      if s.halted && s.ctl.edscrSdd then .fault .undefined else .fault (.systemAccessTrap .el3 0x18 iss)
    else if sel = 31 then .next (s.setX t s.pmccfiltr).advance -- arm I31
    else .next (s.setX t (s.readEvtyper sel)).advance -- arm I
  else -- EL3
    if sel = 31 then .next (s.setX t s.pmccfiltr).advance -- arm I31
    else .next (s.setX t (s.readEvtyper sel)).advance -- arm I

/-- `MSR PMXEVTYPER_EL0, <Xt>`, written out (R151). -/
def pseudoMsrPmxevtyper (t : Nat) (s : State) : Result :=
  let sel := s.ctl.pmselrSel.toNat
  let iss := syndrome (accessOf (.msrPmxevtyper t))
  if !s.cfg.featPMUv3 then .fault .undefined
  else if !decide (sel = 31) && decide (sel ≥ s.cfg.numCounters.val) then -- arm A
    if s.cfg.featFGT then .fault .undefined
    else constrainedUnpredictable (Config.cuChoice s.draws) .top (pmxevtyperWriteEffect t) s
  else if s.pstate.el = .el0 then
    if s.halted && s.cfg.haveEL3 && s.ctl.edscrSdd && s.cfg.el3TrapPrioritySdd && s.ctl.mdcrEl3Tpm then .fault .undefined -- arm B
    else if !s.ctl.pmuserenr.en && (!s.cfg.featPMUv3p9 || !s.ctl.pmuserenr.uen) then -- arm C
      if pseudoEL2Enabled s && s.ctl.hcrEl2.tge then .fault (.systemAccessTrap .el2 0x18 iss)
      else .fault (.systemAccessTrap .el1 0x18 iss)
    else if pseudoEL2Enabled s && !(s.ctl.hcrEl2.e2h && s.ctl.hcrEl2.tge) && s.cfg.featFGT && (!s.cfg.haveEL3 || s.ctl.scrEl3Fgten) && s.ctl.hdfgwtrEl2.pmevtypern then -- arm D
      .fault (.systemAccessTrap .el2 0x18 iss)
    else if pseudoEL2Enabled s && s.ctl.mdcrEl2.tpm then -- arm E
      .fault (.systemAccessTrap .el2 0x18 iss)
    else if pseudoEL2Enabled s && !decide (sel = 31) && decide (sel ≥ pseudoNumAccessible s) then -- arm F
      if !s.cfg.featFGT then constrainedUnpredictable (Config.cuChoice s.draws) .guest (pmxevtyperWriteEffect t) s
      else .fault (.systemAccessTrap .el2 0x18 iss)
    else if s.cfg.haveEL3 && s.ctl.mdcrEl3Tpm then -- arm G
      if s.halted && s.ctl.edscrSdd then .fault .undefined else .fault (.systemAccessTrap .el3 0x18 iss)
    else if s.cfg.featPMUv3p9 && s.ctl.pmuserenr.uen && ((!decide (sel = 31) && (!s.ctl.pmuacr.p.getLsbD sel || s.ctl.pmuserenr.er))
          || (decide (sel = 31) && (!s.ctl.pmuacr.c || s.ctl.pmuserenr.cr))) then -- arm H
      .next s.advance
    else if sel = 31 then .next (s.writePmccfiltr (s.readX t)).advance -- arm I31
    else .next (s.setEvtyper sel (s.readX t)).advance -- arm I
  else if s.pstate.el = .el1 then
    if s.halted && s.cfg.haveEL3 && s.ctl.edscrSdd && s.cfg.el3TrapPrioritySdd && s.ctl.mdcrEl3Tpm then .fault .undefined -- arm B
    else if pseudoEL2Enabled s && s.cfg.featFGT && (!s.cfg.haveEL3 || s.ctl.scrEl3Fgten) && s.ctl.hdfgwtrEl2.pmevtypern then -- arm D
      .fault (.systemAccessTrap .el2 0x18 iss)
    else if pseudoEL2Enabled s && s.ctl.mdcrEl2.tpm then -- arm E
      .fault (.systemAccessTrap .el2 0x18 iss)
    else if pseudoEL2Enabled s && !decide (sel = 31) && decide (sel ≥ pseudoNumAccessible s) then -- arm F
      if !s.cfg.featFGT then constrainedUnpredictable (Config.cuChoice s.draws) .guest (pmxevtyperWriteEffect t) s
      else .fault (.systemAccessTrap .el2 0x18 iss)
    else if s.cfg.haveEL3 && s.ctl.mdcrEl3Tpm then -- arm G
      if s.halted && s.ctl.edscrSdd then .fault .undefined else .fault (.systemAccessTrap .el3 0x18 iss)
    else if sel = 31 then .next (s.writePmccfiltr (s.readX t)).advance -- arm I31
    else .next (s.setEvtyper sel (s.readX t)).advance -- arm I
  else if s.pstate.el = .el2 then
    if s.halted && s.cfg.haveEL3 && s.ctl.edscrSdd && s.cfg.el3TrapPrioritySdd && s.ctl.mdcrEl3Tpm then .fault .undefined -- arm B
    else if s.cfg.haveEL3 && s.ctl.mdcrEl3Tpm then -- arm G
      if s.halted && s.ctl.edscrSdd then .fault .undefined else .fault (.systemAccessTrap .el3 0x18 iss)
    else if sel = 31 then .next (s.writePmccfiltr (s.readX t)).advance -- arm I31
    else .next (s.setEvtyper sel (s.readX t)).advance -- arm I
  else -- EL3
    if sel = 31 then .next (s.writePmccfiltr (s.readX t)).advance -- arm I31
    else .next (s.setEvtyper sel (s.readX t)).advance -- arm I

end Sys2Proof.Machine
end

