-- ==== Sys2Proof/Safety.lean ====
section
/-! DEFINITION. The terms the statements use: the invariant, runs, and when an access meets no trap. -/

namespace Sys2Proof.Machine

/-- The invariant of the machine: the constraints the spec puts on every state (R22, R23, R27, R43, D5). -/
abbrev State.Legal (s : State) : Prop := Arch.Legal s.cfg s.toArch

/-- `s'` is reached from `s` by steps that each answer a next state. -/
inductive Reaches : State → State → Prop where
  | refl (s : State) : Reaches s s
  | step {s s' s'' : State} : Reaches s s' → Sys2Proof.Machine.step s' = .next s'' → Reaches s s''

/-- The run goes on: the outcome is neither a fault nor a refusal. -/
def completes : Result → Bool
  | .next _ => true
  | .fault _ => false
  | .refused _ => false

/-- The levels below EL2, where the EL2 controls act. -/
abbrev BelowEL2 (s : State) : Prop := s.pstate.el = .el0 ∨ s.pstate.el = .el1

/-- MDCR_EL3.TPM traps nothing at the current level (arms B and G do not hold). -/
abbrev EL3LetsThrough (s : State) : Prop :=
  s.pstate.el ≠ .el3 → ¬(s.cfg.haveEL3 = true ∧ s.ctl.mdcrEl3Tpm = true)

/-- The fine-grained trap whose bit is `bit` does not act (arm D does not hold). -/
abbrev FineTrapLetsThrough (bit : Bool) (s : State) : Prop :=
  bit = false ∨ s.cfg.featFGT = false ∨ (s.cfg.haveEL3 = true ∧ s.ctl.scrEl3Fgten = false)
    ∨ (s.pstate.el = .el0 ∧ s.ctl.hcrEl2.e2h = true ∧ s.ctl.hcrEl2.tge = true)

/-- No control of EL2 acts on the access (arms D, E, F do not hold); `counted` says whether the selector is compared
with the number of accessible counters. -/
abbrev EL2LetsThrough (bit counted : Bool) (s : State) : Prop :=
  BelowEL2 s → pseudoEL2Enabled s = true →
    FineTrapLetsThrough bit s ∧ s.ctl.mdcrEl2.tpm = false
      ∧ (counted = true → HpmnAdmitted s ∧ s.ctl.pmselrSel.toNat < pseudoNumAccessible s)

/-- FEAT_PMUv3p9 with PMUSERENR_EL0.UEN set. -/
abbrev UenActs (s : State) : Prop := s.cfg.featPMUv3p9 = true ∧ s.ctl.pmuserenr.uen = true

/-- The value an enabled read of PMXEVCNTR_EL0 returns: 0 at EL0 where PMUACR_EL1 masks the counter (R116). -/
def visibleCounter (s : State) : Word :=
  if s.pstate.el = .el0 ∧ UenActs s ∧ s.ctl.pmuacr.p.getLsbD s.ctl.pmselrSel.toNat = false then 0
  else s.readCounter s.ctl.pmselrSel.toNat

/-- The state an enabled write of PMXEVCNTR_EL0 leaves: unchanged at EL0 where the write is ignored (R116, R117). -/
def counterWritten (s : State) (v : Word) : State :=
  if s.pstate.el = .el0 ∧ UenActs s
      ∧ (s.ctl.pmuacr.p.getLsbD s.ctl.pmselrSel.toNat = false ∨ s.ctl.pmuserenr.er = true) then s
  else s.writeCounter s.ctl.pmselrSel.toNat v

/-- PMUACR_EL1 lets EL0 see the register PMXEVTYPER_EL0 selects (R150 arm H). -/
abbrev TypeUnmasked (s : State) : Prop :=
  if s.ctl.pmselrSel = 31 then s.ctl.pmuacr.c = true else s.ctl.pmuacr.p.getLsbD s.ctl.pmselrSel.toNat = true

/-- PMUSERENR_EL0 makes the register PMXEVTYPER_EL0 selects read-only at EL0 (R151 arm H). -/
abbrev TypeReadOnly (s : State) : Prop :=
  if s.ctl.pmselrSel = 31 then s.ctl.pmuserenr.cr = true else s.ctl.pmuserenr.er = true

/-- The value an enabled read of PMXEVTYPER_EL0 returns. -/
def visibleType (s : State) : Word :=
  if s.pstate.el = .el0 ∧ UenActs s ∧ ¬TypeUnmasked s then 0
  else if s.ctl.pmselrSel = 31 then s.pmccfiltr else s.readEvtyper s.ctl.pmselrSel.toNat

/-- The state an enabled write of PMXEVTYPER_EL0 leaves. -/
def typeWritten (s : State) (v : Word) : State :=
  if s.pstate.el = .el0 ∧ UenActs s ∧ (¬TypeUnmasked s ∨ TypeReadOnly s) then s
  else if s.ctl.pmselrSel = 31 then s.setPmccfiltr (v &&& pmccfiltrKeep s.cfg)
  else s.setEvtyper s.ctl.pmselrSel.toNat v

/-- The four instructions that reach the PMU windows (R95). -/
def isPmuInstr : Instr → Bool
  | .mrsPmxevcntr _ => true
  | .msrPmxevcntr _ => true
  | .mrsPmxevtyper _ => true
  | .msrPmxevtyper _ => true
  | .mrsDspsr _ => false
  | .msrDspsr _ => false

/-- An instruction that PMXEVTYPER_EL0's exemption of SEL 31 concerns (R152). -/
def isTypeInstr : Instr → Bool
  | .mrsPmxevtyper _ => true
  | .msrPmxevtyper _ => true
  | .mrsPmxevcntr _ => false
  | .msrPmxevcntr _ => false
  | .mrsDspsr _ => false
  | .msrDspsr _ => false

/-- The fine-grained trap bit that guards an instruction (R40, R41); DSPSR_EL0 has none. -/
def fineTrapBit (i : Instr) (s : State) : Bool :=
  match i with
  | .mrsPmxevcntr _ => s.ctl.hdfgrtrEl2.pmevcntrn
  | .msrPmxevcntr _ => s.ctl.hdfgwtrEl2.pmevcntrn
  | .mrsPmxevtyper _ => s.ctl.hdfgrtrEl2.pmevtypern
  | .msrPmxevtyper _ => s.ctl.hdfgwtrEl2.pmevtypern
  | .mrsDspsr _ => false
  | .msrDspsr _ => false

/-- PMUSERENR_EL0 enables the access at EL0 (R118, R154); DSPSR_EL0 asks for nothing. -/
def El0Enabled (i : Instr) (s : State) : Prop :=
  match i with
  | .mrsPmxevcntr _ => s.ctl.pmuserenr.en = true ∨ s.ctl.pmuserenr.er = true ∨ UenActs s
  | .msrPmxevcntr _ => s.ctl.pmuserenr.en = true ∨ UenActs s
  | .mrsPmxevtyper _ => s.ctl.pmuserenr.en = true ∨ UenActs s
  | .msrPmxevtyper _ => s.ctl.pmuserenr.en = true ∨ UenActs s
  | .mrsDspsr _ => True
  | .msrDspsr _ => True

/-- The access is to SEL 31 of PMXEVTYPER_EL0, the cycle counter's filter (R152). -/
abbrev SelectsFilter (i : Instr) (s : State) : Prop := isTypeInstr i = true ∧ s.ctl.pmselrSel = 31

/-- Arm B holds (R112). -/
abbrev SddPriority (s : State) : Prop :=
  s.halted = true ∧ s.cfg.haveEL3 = true ∧ s.ctl.edscrSdd = true ∧ s.cfg.el3TrapPrioritySdd = true
    ∧ s.ctl.mdcrEl3Tpm = true ∧ s.pstate.el ≠ .el3

/-- R43 refuses the state for an access below EL2: HPMN above the implemented counters, no effective value given. -/
abbrev HpmnRefused (s : State) : Prop :=
  BelowEL2 s ∧ pseudoEL2Enabled s = true ∧ s.cfg.numCounters.val < s.ctl.mdcrEl2.hpmn.toNat
    ∧ s.cfg.hpmnOutOfRange = none

/-- R43 admits the state at every level: with EL2Enabled(), HPMN is within the implemented counters, or an effective value
is given (D10, log 12). -/
abbrev StateAdmitted (s : State) : Prop := pseudoEL2Enabled s = true → HpmnAdmitted s

/-- The row of 20_memory.md R74 an external access names: an exact offset from PMU_BASE in the row's size (R77). -/
abbrev IsExtRow (c : Config) (addr bits : Nat) : Prop :=
  (addr = c.pmuBase + 0x47C ∧ bits = 32) ∨ (addr = c.pmuBase + 0x4F8 ∧ bits = 64) ∨ (addr = c.pmuBase + 0xA7C ∧ bits = 32)

/-- The condition of 20_memory.md R74 under which offset 0xA7C holds bits [63:32]. -/
abbrev HighHalfPresent (c : Config) : Prop :=
  c.featPMUv3EXT32 = true ∧ (c.featPMUv3TH = true ∨ c.featPMUv3p8 = true)

/-- The row at an address is present (20_memory.md R74). -/
abbrev ExtRowPresent (c : Config) (addr : Nat) : Prop :=
  (addr = c.pmuBase + 0x47C → c.featPMUv3EXT32 = true) ∧ (addr = c.pmuBase + 0x4F8 → c.featPMUv3EXT64 = true)
    ∧ (addr = c.pmuBase + 0xA7C → HighHalfPresent c)

/-- Without FEAT_FGT and with SEL not accessible the access is CONSTRAINED UNPREDICTABLE (R114, R201). -/
abbrev CuArises (s : State) : Prop := s.cfg.featFGT = false ∧ pseudoNumAccessible s ≤ s.ctl.pmselrSel.toNat

/-- The access of an instruction is not CONSTRAINED UNPREDICTABLE: it is of DSPSR_EL0, or of SEL 31 through PMXEVTYPER_EL0
(R152), or FEAT_FGT is implemented, or SEL is accessible (R114). -/
abbrev Predictable (i : Instr) (s : State) : Prop := isPmuInstr i = false ∨ SelectsFilter i s ∨ ¬CuArises s

/-- The behaviours 1 to 4 of R114, each as an outcome: `ignored` is the RAZ/WI effect, `perform k` the access with `k` in
place of SEL. Every completion counts one free value drawn. -/
def PermittedAnywhere (s : State) (ignored : State) (perform : Nat → State) (o : Result) : Prop :=
  o = .fault .undefined ∨ o = .next ignored.advance.bumpDraws ∨ o = .next s.advance.bumpDraws
    ∨ ∃ k, k < pseudoNumAccessible s ∧ o = .next (perform k).advance.bumpDraws

/-- Behaviour 5 of R114. -/
def TrappedToEL2 (i : Instr) (o : Result) : Prop :=
  o = .fault (.systemAccessTrap .el2 0x18 (syndrome (accessOf i)))

/-- A map on the state of an outcome that goes on. -/
def mapNext (f : State → State) : Result → Result
  | .next s => .next (f s)
  | .fault r => .fault r
  | .refused r => .refused r

/-- The bits of DSPSR_EL0 the AArch64 layout keeps, bit by bit (R48, R183). -/
def kept64 (c : Config) (k : Nat) : Bool :=
  if k = 32 then c.featCSRE
  else if k = 25 then c.featMTE
  else if k = 24 then c.featDIT
  else if k = 23 then c.featUAO
  else if k = 22 then c.featPAN
  else if k = 12 then c.featSSBS
  else if k = 11 ∨ k = 10 then c.featBTI
  else decide (k < 33 ∧ ¬(k = 27 ∨ k = 26) ∧ ¬(13 ≤ k ∧ k ≤ 19) ∧ k ≠ 5)

/-- The bits of DSPSR_EL0 the AArch32 layout keeps, bit by bit, E apart (R47, R183). -/
def kept32 (c : Config) (k : Nat) : Bool :=
  if k = 24 then c.featDIT
  else if k = 23 then c.featSSBS
  else if k = 22 then c.featPAN
  else decide (k < 32)

/-- M[3:0] of an AArch64 exit that is no illegal return event (R187 item 2). -/
abbrev ReturnableMode (c : Config) (m : BitVec 4) : Prop :=
  m = 0b0000 ∨ m = 0b0100 ∨ m = 0b0101 ∨ (c.haveEL2 = true ∧ (m = 0b1000 ∨ m = 0b1001))
    ∨ (c.haveEL3 = true ∧ (m = 0b1100 ∨ m = 0b1101))

/-- The six cases in which the two readings of the cycle filter differ (R222). -/
def FilterReadingsDiffer (f : Word) (el : EL) (ss : Security) : Prop :=
  (el = .el0 ∧ ss = .nonSecure ∧ f.getLsbD 30 = true ∧ f.getLsbD 28 = true)
    ∨ (el = .el0 ∧ ss = .realm ∧ f.getLsbD 30 = true ∧ f.getLsbD 21 = true)
    ∨ (el = .el1 ∧ ss = .nonSecure ∧ f.getLsbD 31 = true ∧ f.getLsbD 29 = true)
    ∨ (el = .el1 ∧ ss = .realm ∧ f.getLsbD 31 = true ∧ f.getLsbD 22 = true)
    ∨ (el = .el2 ∧ ss = .secure ∧ f.getLsbD 27 = false ∧ f.getLsbD 24 = true)
    ∨ (el = .el2 ∧ ss = .realm ∧ f.getLsbD 27 = false ∧ f.getLsbD 20 = true)

end Sys2Proof.Machine
end

