-- ==== Sys2Proof/Certificates/Slice0/Obligations.lean ====
section
/-! DEFINITION. The statements for the provers. Each docstring says what is claimed and on what it rests. -/

open Sys2Proof Sys2Proof.Machine

/-- Words the spec lists decode to the instructions it lists. Rests on 95_test_vectors.md section 5; 30_encoding.md
section 2; 92_eei_decisions.md D1. The words of the decode vectors decode to the instruction the spec gives them,
and the four unknown words are rejected by name. The word layout is general knowledge in the spec (log 22,
PRESUMED), and rejecting a word of no row is its decision D1 (log 1). -/
def Obligations.SpecWordsDecodeToTheirInstructions : Prop :=
  decode 0xD53B9D40 = .instr (.mrsPmxevcntr 0) ∧ decode 0xD53B9D5F = .instr (.mrsPmxevcntr 31)
    ∧ decode 0xD51B9D47 = .instr (.msrPmxevcntr 7) ∧ decode 0xD53B9D23 = .instr (.mrsPmxevtyper 3)
    ∧ decode 0xD51B9D24 = .instr (.msrPmxevtyper 4) ∧ decode 0xD53B4500 = .instr (.mrsDspsr 0)
    ∧ decode 0xD51B451F = .instr (.msrDspsr 31)
    ∧ decode 0xD53B9D65 = .unknown 0xD53B9D65 ∧ decode 0xD53B9C45 = .unknown 0xD53B9C45
    ∧ decode 0xD50B9D40 = .unknown 0xD50B9D40 ∧ decode 0x00000000 = .unknown 0x00000000

/-- A word decodes to a row's instruction exactly when its bits under the mask are the row's match value. Rests on
30_encoding.md section 2 (the opcode map); spec/opcode_table.json. For every 32-bit word w and operand t: w decodes
to each of the six instructions with operand t iff w and 0xFFFFFFE0 is that row's match value and t is the low five
bits of w. The word layout is general knowledge in the spec (log 22). -/
def Obligations.WordIsARowExactlyWhenItsMaskedBitsMatch : Prop :=
  ∀ (w : InstrWord) (t : Nat),
    (decode w = .instr (.mrsPmxevcntr t) ↔ w &&& 0xFFFFFFE0 = 0xD53B9D40 ∧ t = (w &&& 0x1F).toNat)
    ∧ (decode w = .instr (.msrPmxevcntr t) ↔ w &&& 0xFFFFFFE0 = 0xD51B9D40 ∧ t = (w &&& 0x1F).toNat)
    ∧ (decode w = .instr (.mrsPmxevtyper t) ↔ w &&& 0xFFFFFFE0 = 0xD53B9D20 ∧ t = (w &&& 0x1F).toNat)
    ∧ (decode w = .instr (.msrPmxevtyper t) ↔ w &&& 0xFFFFFFE0 = 0xD51B9D20 ∧ t = (w &&& 0x1F).toNat)
    ∧ (decode w = .instr (.mrsDspsr t) ↔ w &&& 0xFFFFFFE0 = 0xD53B4500 ∧ t = (w &&& 0x1F).toNat)
    ∧ (decode w = .instr (.msrDspsr t) ↔ w &&& 0xFFFFFFE0 = 0xD51B4500 ∧ t = (w &&& 0x1F).toNat)

/-- Decoding an encoded instruction gives it back, and a word that decodes is the encoding of what it decodes to. Rests
on 30_encoding.md section 1; 30_encoding.md section 2. For every well-formed instruction i with every operand,
decode (encode i) is i; and for every word w that decodes to i, i is well formed and encode i is w. So no word has
two readings and no bit of a word is dropped. The word layout is general knowledge in the spec (log 22). -/
def Obligations.DecodeAndEncodeAgree : Prop :=
  (∀ i : Instr, i.wellFormed = true → decode (encode i) = .instr i)
    ∧ ∀ (w : InstrWord) (i : Instr), decode w = .instr i → i.wellFormed = true ∧ encode i = w

/-- A supplied word that matches no row is refused by name. Rests on 30_encoding.md section 3 (decision D1);
95_test_vectors.md section 5. For every state R43 admits whose next move supplies a word w whose bits under the
mask are none of the six match values, the step refuses with unknownWord w. It is the spec's decision D1 (log 1),
on its word layout (log 22). -/
def Obligations.WordsOfNoRowAreRefusedByName : Prop :=
  ∀ (s : State) (w : InstrWord) (rest : List HostMove), StateAdmitted s → s.inputs = .supply w :: rest →
    w &&& 0xFFFFFFE0 ∉ ([0xD53B9D40, 0xD51B9D40, 0xD53B9D20, 0xD51B9D20, 0xD53B4500, 0xD51B4500] : List InstrWord) →
    step s = .refused (.unknownWord w)

/-- When the next move supplies a word that decodes to i, step is exec of i on the state with that move taken. Rests on
60_exceptions.md section 9; 92_eei_decisions.md D1. For every state R43 admits whose next move supplies a word that
decodes to a well-formed instruction i, step answers exec i at that state with the move removed from the queue and
nothing else changed. The queue is the model's (log 1); in a state R43 refuses the step is refused (log 12,
RefusedHpmnStatesNeitherStepNorArise). -/
def Obligations.StepRunsTheDecodedInstruction : Prop :=
  ∀ (s : State) (w : InstrWord) (rest : List HostMove) (i : Instr), StateAdmitted s →
    s.inputs = .supply w :: rest → decode w = .instr i → i.wellFormed = true → step s = exec i (s.setInputs rest)

/-- The word withFetchWord places is the instruction the very next step runs. Rests on 92_eei_decisions.md D1. For
every state R43 admits (log 12), if decodeTableWord reads an instruction i from a word, then the step after
withFetchWord with that word answers exec i at the state it was placed in. The queue and the placing are the
model's (log 1). -/
def Obligations.PlacedTableWordRunsNext : Prop :=
  ∀ (s : State) (nbits w : Nat) (i : Instr), StateAdmitted s → decodeTableWord nbits w = some i →
    step (s.withFetchWord nbits w) = exec i s

/-- MRS of PMXEVCNTR_EL0: the meaning over the shared check chain is the spec's pseudocode, arm for arm. Rests on
40_pmxevcntr.md section 2; 60_exceptions.md section 3 (priority); 10_state.md section 5; 92_eei_decisions.md D2,
D4, D5, D6, D9, D10, D21. For every operand and every state in which R43 admits the number of accessible counters
wherever it is consulted (HPMN at most NUM_PMU_COUNTERS, or an effective value given: log 12), exec answers exactly
what the pseudocode of the spec, written out arm for arm over the fields, answers: next state, Undefined, trap, or
CONSTRAINED UNPREDICTABLE outcome. The arms are the spec's; these parts rest on its decisions and on general
knowledge: the FEAT_PMUv3p9 arms (log 14), the choice (log 8), 32-bit reads (log 15), EL2Enabled() (log 13), pc + 4
(log 5), operand 31 (log 7), the syndrome (log 11). -/
def Obligations.MrsPmxevcntrIsItsPseudocode : Prop :=
  ∀ (t : Nat) (s : State), (BelowEL2 s → pseudoEL2Enabled s = true → HpmnAdmitted s) →
    exec (.mrsPmxevcntr t) s = pseudoMrsPmxevcntr t s

/-- MSR of PMXEVCNTR_EL0: the meaning over the shared check chain is the spec's pseudocode, arm for arm. Rests on
40_pmxevcntr.md section 2; 60_exceptions.md section 3 (priority); 10_state.md section 5; 92_eei_decisions.md D2,
D4, D5, D6, D9, D10, D21. For every operand and every state in which R43 admits the number of accessible counters
wherever it is consulted (HPMN at most NUM_PMU_COUNTERS, or an effective value given: log 12), exec answers exactly
what the pseudocode of the spec, written out arm for arm over the fields, answers: next state, Undefined, trap, or
CONSTRAINED UNPREDICTABLE outcome. The arms are the spec's; these parts rest on its decisions and on general
knowledge: the FEAT_PMUv3p9 arms (log 14), the choice (log 8), 32-bit writes (log 15), EL2Enabled() (log 13), pc +
4 (log 5), operand 31 (log 7), the syndrome (log 11). -/
def Obligations.MsrPmxevcntrIsItsPseudocode : Prop :=
  ∀ (t : Nat) (s : State), (BelowEL2 s → pseudoEL2Enabled s = true → HpmnAdmitted s) →
    exec (.msrPmxevcntr t) s = pseudoMsrPmxevcntr t s

/-- MRS of PMXEVTYPER_EL0: the meaning over the shared check chain is the spec's pseudocode, arm for arm. Rests on
41_pmxevtyper.md section 1; 60_exceptions.md section 3 (priority); 10_state.md section 5; 92_eei_decisions.md D2,
D4, D9, D10, D20, D21, D25. For every operand and every state in which R43 admits the number of accessible counters
wherever it is consulted (HPMN at most NUM_PMU_COUNTERS, or an effective value given: log 12), exec answers exactly
what the pseudocode of the spec, written out arm for arm over the fields, answers: next state, Undefined, trap, or
CONSTRAINED UNPREDICTABLE outcome. The arms are the spec's; these parts rest on its decisions and on general
knowledge: the helpers' identification (log 32), the CONSTRAINED UNPREDICTABLE set (log 9) and choice (log 8), 64
opaque bits (log 18), EL2Enabled() (log 13), pc + 4 (log 5), operand 31 (log 7), the syndrome (log 11). -/
def Obligations.MrsPmxevtyperIsItsPseudocode : Prop :=
  ∀ (t : Nat) (s : State), (BelowEL2 s → pseudoEL2Enabled s = true → HpmnAdmitted s) →
    exec (.mrsPmxevtyper t) s = pseudoMrsPmxevtyper t s

/-- MSR of PMXEVTYPER_EL0: the meaning over the shared check chain is the spec's pseudocode, arm for arm. Rests on
41_pmxevtyper.md section 1; 60_exceptions.md section 3 (priority); 10_state.md section 5; 92_eei_decisions.md D2,
D4, D5, D9, D10, D20, D21, D25. For every operand and every state in which R43 admits the number of accessible
counters wherever it is consulted (HPMN at most NUM_PMU_COUNTERS, or an effective value given: log 12), exec
answers exactly what the pseudocode of the spec, written out arm for arm over the fields, answers: next state,
Undefined, trap, or CONSTRAINED UNPREDICTABLE outcome. The arms are the spec's; these parts rest on its decisions
and on general knowledge: the helpers' identification (log 32), the CONSTRAINED UNPREDICTABLE set (log 9) and
choice (log 8), 64 opaque bits (log 18), the RES0 bits of PMCCFILTR_EL0 (log 15, log 16), EL2Enabled() (log 13), pc
+ 4 (log 5), operand 31 (log 7), the syndrome (log 11). -/
def Obligations.MsrPmxevtyperIsItsPseudocode : Prop :=
  ∀ (t : Nat) (s : State), (BelowEL2 s → pseudoEL2Enabled s = true → HpmnAdmitted s) →
    exec (.msrPmxevtyper t) s = pseudoMsrPmxevtyper t s

/-- A read of PMXEVCNTR_EL0 that no arm stops answers a next state with the selected counter in Xt. Rests on
40_pmxevcntr.md section 2; 40_pmxevcntr.md section 3; 92_eei_decisions.md D2, D6. With FEAT_PMUv3, an implemented
counter selected, EL0 access enabled (at EL0), and no EL2 or EL3 control acting, MRS completes at every Exception
level: Xt takes the selected counter (32 bits zero-extended without FEAT_PMUv3p5), or 0 where PMUACR_EL1 masks it
at EL0, the pc advances, and nothing else changes. The pc is log 5, operand 31 log 7, the mask's place log 14, the
32-bit half log 15. -/
def Obligations.MrsPmxevcntrCompletes : Prop :=
  ∀ (t : Nat) (s : State), s.cfg.featPMUv3 = true → s.ctl.pmselrSel.toNat < s.cfg.numCounters.val →
    (s.pstate.el = .el0 → El0Enabled (.mrsPmxevcntr t) s) → EL3LetsThrough s →
    EL2LetsThrough s.ctl.hdfgrtrEl2.pmevcntrn true s →
    exec (.mrsPmxevcntr t) s = .next (s.setX t (visibleCounter s)).advance

/-- A write of PMXEVCNTR_EL0 that no arm stops answers a next state with the selected counter written. Rests on
40_pmxevcntr.md section 2; 40_pmxevcntr.md section 3; 92_eei_decisions.md D2, D6. Under the same conditions for a
write (EL0 enable without ER), MSR completes: the selected counter takes Xt, narrowed to 32 bits without
FEAT_PMUv3p5, or nothing is written where EL0 is write-ignored, the pc advances, and nothing else changes. The pc
is log 5, operand 31 log 7, the mask's place log 14, the 32-bit half log 15. -/
def Obligations.MsrPmxevcntrCompletes : Prop :=
  ∀ (t : Nat) (s : State), s.cfg.featPMUv3 = true → s.ctl.pmselrSel.toNat < s.cfg.numCounters.val →
    (s.pstate.el = .el0 → El0Enabled (.msrPmxevcntr t) s) → EL3LetsThrough s →
    EL2LetsThrough s.ctl.hdfgwtrEl2.pmevcntrn true s →
    exec (.msrPmxevcntr t) s = .next (counterWritten s (s.readX t)).advance

/-- A read of PMXEVTYPER_EL0 that no arm stops answers a next state, SEL 31 reaching PMCCFILTR_EL0. Rests on
41_pmxevtyper.md section 1; 41_pmxevtyper.md section 2; 92_eei_decisions.md D2, D5, D25. With FEAT_PMUv3, SEL 31 or
an implemented counter selected, EL0 access enabled (at EL0), and no EL2 or EL3 control acting (the count compared
only when SEL is not 31), the instruction completes at every Exception level: Xt takes PMEVTYPER_EL0[SEL], or
PMCCFILTR_EL0 when SEL is 31, or 0 where PMUACR_EL1 masks it at EL0; the pc advances, and nothing else changes. The
pc is log 5, operand 31 log 7, the 64 opaque bits log 18, RES0 log 15 and log 16, the helpers log 32. -/
def Obligations.MrsPmxevtyperCompletes : Prop :=
  ∀ (t : Nat) (s : State), s.cfg.featPMUv3 = true →
    (s.ctl.pmselrSel = 31 ∨ s.ctl.pmselrSel.toNat < s.cfg.numCounters.val) →
    (s.pstate.el = .el0 → El0Enabled (.mrsPmxevtyper t) s) → EL3LetsThrough s →
    EL2LetsThrough s.ctl.hdfgrtrEl2.pmevtypern (decide (s.ctl.pmselrSel ≠ 31)) s →
    exec (.mrsPmxevtyper t) s = .next (s.setX t (visibleType s)).advance

/-- A write of PMXEVTYPER_EL0 that no arm stops answers a next state, SEL 31 reaching PMCCFILTR_EL0. Rests on
41_pmxevtyper.md section 1; 41_pmxevtyper.md section 2; 92_eei_decisions.md D2, D5, D25. With FEAT_PMUv3, SEL 31 or
an implemented counter selected, EL0 access enabled (at EL0), and no EL2 or EL3 control acting (the count compared
only when SEL is not 31), the instruction completes at every Exception level: PMEVTYPER_EL0[SEL] takes all of Xt,
or PMCCFILTR_EL0 takes Xt with its RES0 bits kept 0 when SEL is 31, or nothing is written where EL0 is write-
ignored; the pc advances, and nothing else changes. The pc is log 5, operand 31 log 7, the 64 opaque bits log 18,
RES0 log 15 and log 16, the helpers log 32. -/
def Obligations.MsrPmxevtyperCompletes : Prop :=
  ∀ (t : Nat) (s : State), s.cfg.featPMUv3 = true →
    (s.ctl.pmselrSel = 31 ∨ s.ctl.pmselrSel.toNat < s.cfg.numCounters.val) →
    (s.pstate.el = .el0 → El0Enabled (.msrPmxevtyper t) s) → EL3LetsThrough s →
    EL2LetsThrough s.ctl.hdfgwtrEl2.pmevtypern (decide (s.ctl.pmselrSel ≠ 31)) s →
    exec (.msrPmxevtyper t) s = .next (typeWritten s (s.readX t)).advance

/-- A read of DSPSR_EL0 gives all 64 bits in Debug state at every level, and is Undefined outside it. Rests on
42_dspsr.md section 1; 30_encoding.md section 2; 92_eei_decisions.md D2, D17, D21. For every state and operand: in
Debug state MRS DSPSR_EL0 puts all 64 bits of DSPSR_EL0 into Xt (discarded when t is 31), at every Exception level,
with the pc and everything else unchanged; outside Debug state it is Undefined; and its word is 0xD53B4500 + t. The
pc rests on log 5 (PRESUMED, D17), operand 31 on log 7 (PRESUMED), the word on log 22 (PRESUMED). -/
def Obligations.MrsDspsrCompletesExactlyInDebugState : Prop :=
  ∀ (t : Nat) (s : State),
    (s.halted = true → exec (.mrsDspsr t) s = .next (s.setX t s.dspsr))
    ∧ (s.halted = false → exec (.mrsDspsr t) s = .fault .undefined)
    ∧ (t < 32 → encode (.mrsDspsr t) = 0xD53B4500 + BitVec.ofNat 32 t)

/-- A write of DSPSR_EL0 stores Res0Mask of Xt in Debug state, and is Undefined outside it. Rests on 42_dspsr.md
section 1; 42_dspsr.md section 2 (Res0Mask); 30_encoding.md section 2; 92_eei_decisions.md D2, D5, D17, D21. For
every state and operand: in Debug state MSR DSPSR_EL0 stores Res0Mask of Xt (0 when t is 31) whatever its M[3:0],
with PSTATE, the pc and everything else unchanged; outside Debug state it is Undefined; and its word is 0xD51B4500
+ t. What is stored rests on log 15 (PRESUMED, D5) and log 33 (DEDUCED), the pc on log 5 (PRESUMED, D17), operand
31 on log 7 (PRESUMED), the word on log 22 (PRESUMED). -/
def Obligations.MsrDspsrCompletesExactlyInDebugState : Prop :=
  ∀ (t : Nat) (s : State),
    (s.halted = true → exec (.msrDspsr t) s = .next (s.setDspsr (res0Mask s.cfg (if t = 31 then 0 else s.readX t))))
    ∧ (s.halted = false → exec (.msrDspsr t) s = .fault .undefined)
    ∧ (t < 32 → encode (.msrDspsr t) = 0xD51B4500 + BitVec.ofNat 32 t)

/-- The PMU instructions are Undefined without FEAT_PMUv3, the DSPSR_EL0 ones outside Debug state. Formalises R95. For
every instruction and every state: a PMU instruction where FEAT_PMUv3 is not implemented, and a DSPSR_EL0
instruction while the PE is not in Debug state, answer Undefined at every Exception level. -/
def Obligations.AbsentRegistersAreUndefined : Prop :=
  ∀ (i : Instr) (s : State),
    (isPmuInstr i = true → s.cfg.featPMUv3 = false → exec i s = .fault .undefined)
    ∧ (isPmuInstr i = false → s.halted = false → exec i s = .fault .undefined)

/-- An instruction is Undefined only for a cause of the spec's complete list. Rests on 60_exceptions.md section 1
(table of causes). For every instruction and state: if exec answers Undefined, then FEAT_PMUv3 is absent, or the
counter is unimplemented with FEAT_FGT (SEL 31 of PMXEVTYPER_EL0 apart), or the PE is in Debug state with EDSCR.SDD
and MDCR_EL3.TPM set below EL3 with EL3 implemented, or the access is CONSTRAINED UNPREDICTABLE, or it is a
DSPSR_EL0 access outside Debug state. -/
def Obligations.UndefinedHasOnlyTheListedCauses : Prop :=
  ∀ (i : Instr) (s : State), exec i s = .fault .undefined →
    (isPmuInstr i = true ∧ s.cfg.featPMUv3 = false)
    ∨ (isPmuInstr i = true ∧ s.cfg.featFGT = true ∧ ¬SelectsFilter i s
        ∧ s.cfg.numCounters.val ≤ s.ctl.pmselrSel.toNat)
    ∨ (isPmuInstr i = true ∧ s.halted = true ∧ s.ctl.edscrSdd = true ∧ s.cfg.haveEL3 = true
        ∧ s.ctl.mdcrEl3Tpm = true ∧ s.pstate.el ≠ .el3)
    ∨ (isPmuInstr i = true ∧ ¬SelectsFilter i s ∧ CuArises s)
    ∨ (isPmuInstr i = false ∧ s.halted = false)

/-- Every trap goes to an implemented level above the current one, with code 0x18 and the access's syndrome. Rests on
60_exceptions.md section 1; 10_state.md section 5. For every instruction and state: if exec answers a
SystemAccessTrap, the instruction is one of the four PMU ones, the target level is implemented and strictly above
the current level (so EL3 never traps), the code is 0x18, and the syndrome is the one R204 gives the instruction
(general knowledge in the spec, log 11). -/
def Obligations.TrapsGoToAHigherImplementedLevel : Prop :=
  ∀ (i : Instr) (s : State) (e : EL) (code : Nat) (iss : BitVec 25),
    exec i s = .fault (.systemAccessTrap e code iss) →
    isPmuInstr i = true ∧ elNumber s.pstate.el < elNumber e ∧ haveEL s.cfg e = true ∧ code = 0x18
      ∧ iss = syndrome (accessOf i)

/-- A trap to EL1, EL2 or EL3 has a cause of the spec's list for that target. Rests on 60_exceptions.md section 1
(table of causes); 60_exceptions.md section 5. For every instruction and state: a trap to EL1 comes only from a
disabled EL0 access without (EL2 enabled and HCR_EL2.TGE); a trap to EL2 only below EL2 with EL2 enabled, from a
disabled EL0 access with TGE, an acting fine-grained trap, MDCR_EL2.TPM, or a counter not accessible; a trap to EL3
only below EL3 with EL3 implemented, MDCR_EL3.TPM set, and not (Debug state with EDSCR.SDD). UEN in the enable of
PMXEVCNTR_EL0 is log 14 (D6). -/
def Obligations.TrapsHaveOnlyTheListedCauses : Prop :=
  ∀ (i : Instr) (s : State) (e : EL) (code : Nat) (iss : BitVec 25),
    exec i s = .fault (.systemAccessTrap e code iss) →
    (e = .el1 ∧ s.pstate.el = .el0 ∧ ¬El0Enabled i s ∧ ¬(pseudoEL2Enabled s = true ∧ s.ctl.hcrEl2.tge = true))
    ∨ (e = .el2 ∧ BelowEL2 s ∧ pseudoEL2Enabled s = true
        ∧ ((s.pstate.el = .el0 ∧ ¬El0Enabled i s ∧ s.ctl.hcrEl2.tge = true)
          ∨ ¬FineTrapLetsThrough (fineTrapBit i s) s ∨ s.ctl.mdcrEl2.tpm = true
          ∨ (¬SelectsFilter i s ∧ pseudoNumAccessible s ≤ s.ctl.pmselrSel.toNat)))
    ∨ (e = .el3 ∧ s.pstate.el ≠ .el3 ∧ s.cfg.haveEL3 = true ∧ s.ctl.mdcrEl3Tpm = true
        ∧ ¬(s.halted = true ∧ s.ctl.edscrSdd = true))

/-- A disabled EL0 access to a counter that exists traps to EL2 under TGE, else to EL1. Rests on 40_pmxevcntr.md
section 2 (arm C); 41_pmxevtyper.md section 1 (arm C); 60_exceptions.md section 5. For each of the four PMU
instructions at EL0 with FEAT_PMUv3, SEL implemented (or 31 for PMXEVTYPER_EL0), the SDD priority case not holding
and the access not enabled: exec answers a trap to EL2 if EL2 is enabled and HCR_EL2.TGE is 1, else to EL1,
whatever the EL2 and EL3 controls are. UEN in the enable of PMXEVCNTR_EL0 is log 14 (D6), the syndrome log 11. -/
def Obligations.DisabledEl0AccessTraps : Prop :=
  ∀ (i : Instr) (s : State), isPmuInstr i = true → s.cfg.featPMUv3 = true → s.pstate.el = .el0 →
    (SelectsFilter i s ∨ s.ctl.pmselrSel.toNat < s.cfg.numCounters.val) → ¬SddPriority s → ¬El0Enabled i s →
    exec i s = .fault (.systemAccessTrap
      (if pseudoEL2Enabled s = true ∧ s.ctl.hcrEl2.tge = true then .el2 else .el1) 0x18 (syndrome (accessOf i)))

/-- MDCR_EL3.TPM traps an otherwise open access to EL3, or makes it Undefined in Debug state with SDD. Rests on
40_pmxevcntr.md section 2 (arm G); 41_pmxevtyper.md section 1 (arm G); 60_exceptions.md section 3;
92_eei_decisions.md D6. For each PMU instruction below EL3 with EL3 implemented and MDCR_EL3.TPM set, enabled at
EL0 and stopped by no EL2 control: exec answers Undefined if the PE is in Debug state with EDSCR.SDD set, else a
trap to EL3. For PMXEVCNTR_EL0 at EL0 enabled by UEN, that the trap precedes read-as-zero and write-ignored is log
14 (DEDUCED, D6); the syndrome is log 11 (PRESUMED). -/
def Obligations.MdcrEl3TrapsWhatNothingEarlierStops : Prop :=
  ∀ (i : Instr) (s : State), isPmuInstr i = true → s.cfg.featPMUv3 = true → s.pstate.el ≠ .el3 →
    (SelectsFilter i s ∨ s.ctl.pmselrSel.toNat < s.cfg.numCounters.val) → (s.pstate.el = .el0 → El0Enabled i s) →
    EL2LetsThrough (fineTrapBit i s) (!(isTypeInstr i && decide (s.ctl.pmselrSel = 31))) s →
    s.cfg.haveEL3 = true → s.ctl.mdcrEl3Tpm = true →
    exec i s = if s.halted = true ∧ s.ctl.edscrSdd = true then .fault .undefined
      else .fault (.systemAccessTrap .el3 0x18 (syndrome (accessOf i)))

/-- Below EL2 with EL2 enabled, an acting fine-grained trap or MDCR_EL2.TPM traps an enabled access to EL2. Rests on
40_pmxevcntr.md section 2 (arms D and E); 41_pmxevtyper.md section 1 (arms D and E); 60_exceptions.md section 5;
92_eei_decisions.md D6. For each PMU instruction at EL0 (enabled) or EL1 with EL2 enabled, FEAT_PMUv3, SEL
implemented (or 31 for PMXEVTYPER_EL0) and the SDD priority case not holding: if its fine-grained trap acts or
MDCR_EL2.TPM is set, exec answers a trap to EL2, whatever MDCR_EL3 says. For PMXEVCNTR_EL0 at EL0 enabled by UEN,
that the traps precede read-as-zero and write-ignored is log 14 (DEDUCED, D6); the syndrome is log 11 (PRESUMED). -/
def Obligations.El2ControlsTrapGuestAccesses : Prop :=
  ∀ (i : Instr) (s : State), isPmuInstr i = true → s.cfg.featPMUv3 = true → BelowEL2 s →
    (SelectsFilter i s ∨ s.ctl.pmselrSel.toNat < s.cfg.numCounters.val) → (s.pstate.el = .el0 → El0Enabled i s) →
    ¬SddPriority s → pseudoEL2Enabled s = true →
    (¬FineTrapLetsThrough (fineTrapBit i s) s ∨ s.ctl.mdcrEl2.tpm = true) →
    exec i s = .fault (.systemAccessTrap .el2 0x18 (syndrome (accessOf i)))

/-- With FEAT_FGT an access to an unimplemented counter is Undefined, to an inaccessible one a trap to EL2. Rests on
40_pmxevcntr.md section 3 (with FEAT_FGT); 90_conflicts.md C7; 92_eei_decisions.md D6, D10. For both PMXEVCNTR_EL0
instructions with FEAT_PMUv3 and FEAT_FGT: if SEL is at least NUM_PMU_COUNTERS the outcome is Undefined at every
level, even where the access is not enabled at EL0; if SEL is implemented but at least the number of accessible
counters, the level is EL0 or EL1 with EL2 enabled, and (in a state R43 admits) an access that is permitted and not
in the SDD priority case is trapped to EL2. That a disabled EL0 access is Undefined is resolution C7, the admitted
states are log 12 (D10), the SDD priority case is arm B, the order under UEN is log 14 (D6), and the syndrome is
log 11. The PMXEVTYPER_EL0 forms are in the two pseudocode statements. -/
def Obligations.FgtDefinesInaccessibleCounterAccess : Prop :=
  ∀ (i : Instr) (s : State), isPmuInstr i = true → isTypeInstr i = false →
    s.cfg.featPMUv3 = true → s.cfg.featFGT = true →
    (s.cfg.numCounters.val ≤ s.ctl.pmselrSel.toNat → exec i s = .fault .undefined)
    ∧ (s.ctl.pmselrSel.toNat < s.cfg.numCounters.val → pseudoNumAccessible s ≤ s.ctl.pmselrSel.toNat →
        BelowEL2 s ∧ pseudoEL2Enabled s = true
        ∧ (¬HpmnRefused s → (s.pstate.el = .el0 → El0Enabled i s) → ¬SddPriority s →
          exec i s = .fault (.systemAccessTrap .el2 0x18 (syndrome (accessOf i)))))

/-- With EL3 implemented and SCR_EL3.FGTEn 0 no fine-grained trap bit has any effect. Formalises R39. For every
instruction and state with EL3 implemented and SCR_EL3.FGTEn 0: replacing both bits of HDFGRTR_EL2 and both bits of
HDFGWTR_EL2 by any values changes neither the outcome nor any part of the next state but those bits themselves. An
access that is CONSTRAINED UNPREDICTABLE is left out: its behaviour is a free choice (log 8), and two runs of it
are not compared. -/
def Obligations.FineGrainedTrapsNeedFgten : Prop :=
  ∀ (i : Instr) (s : State) (r w : FineTraps), s.cfg.haveEL3 = true → s.ctl.scrEl3Fgten = false →
    Predictable i s →
    exec i (s.setCtl { s.ctl with hdfgrtrEl2 := r, hdfgwtrEl2 := w })
      = mapNext (fun u => u.setCtl { u.ctl with hdfgrtrEl2 := r, hdfgwtrEl2 := w }) (exec i s)

/-- EDSCR.SDD has no effect outside Debug state, and in it turns the trap to EL3 into Undefined. Formalises R42. For
every instruction and state: outside Debug state the outcome with EDSCR.SDD 1 is the outcome with EDSCR.SDD 0, SDD
itself apart (an access that is CONSTRAINED UNPREDICTABLE, whose behaviour is a free choice (log 8), left out); in
Debug state an instruction that answers a trap to EL3 with EDSCR.SDD 0 answers Undefined with EDSCR.SDD 1. -/
def Obligations.SddActsOnlyInDebugStateOnEl3Traps : Prop :=
  ∀ (i : Instr) (s : State),
    (s.halted = false → Predictable i s →
      exec i (s.setCtl { s.ctl with edscrSdd := true })
        = mapNext (fun u => u.setCtl { u.ctl with edscrSdd := true })
          (exec i (s.setCtl { s.ctl with edscrSdd := false })))
    ∧ (s.halted = true → ∀ (code : Nat) (iss : BitVec 25),
        exec i (s.setCtl { s.ctl with edscrSdd := false }) = .fault (.systemAccessTrap .el3 code iss) →
        exec i (s.setCtl { s.ctl with edscrSdd := true }) = .fault .undefined)

/-- Without FEAT_FGT an access to PMXEVCNTR_EL0 beyond the accessible counters takes a permitted behaviour. Rests on
40_pmxevcntr.md section 3 (the five behaviours); 60_exceptions.md section 1; 92_eei_decisions.md D4. For the read
and the write of PMXEVCNTR_EL0 with FEAT_PMUv3, without FEAT_FGT, in a state R43 admits: if SEL is at least
NUM_PMU_COUNTERS, the outcome is Undefined, RAZ/WI, NOP, or the access with some accessible counter in place of
SEL; if SEL is implemented but not accessible (and no earlier arm holds), the outcome is one of these or a trap to
EL2. Which one is a free value (log 8). -/
def Obligations.UnpredictableCounterAccessIsPermitted : Prop :=
  ∀ (t : Nat) (s : State), s.cfg.featPMUv3 = true → s.cfg.featFGT = false → ¬HpmnRefused s →
    (s.cfg.numCounters.val ≤ s.ctl.pmselrSel.toNat →
      PermittedAnywhere s (s.setX t 0) (fun k => s.setX t (s.readCounter k)) (exec (.mrsPmxevcntr t) s)
      ∧ PermittedAnywhere s s (fun k => s.writeCounter k (s.readX t)) (exec (.msrPmxevcntr t) s))
    ∧ (s.ctl.pmselrSel.toNat < s.cfg.numCounters.val → pseudoNumAccessible s ≤ s.ctl.pmselrSel.toNat →
      ¬SddPriority s → s.ctl.mdcrEl2.tpm = false →
      ((s.pstate.el = .el0 → El0Enabled (.mrsPmxevcntr t) s) →
        PermittedAnywhere s (s.setX t 0) (fun k => s.setX t (s.readCounter k)) (exec (.mrsPmxevcntr t) s)
        ∨ TrappedToEL2 (.mrsPmxevcntr t) (exec (.mrsPmxevcntr t) s))
      ∧ ((s.pstate.el = .el0 → El0Enabled (.msrPmxevcntr t) s) →
        PermittedAnywhere s s (fun k => s.writeCounter k (s.readX t)) (exec (.msrPmxevcntr t) s)
        ∨ TrappedToEL2 (.msrPmxevcntr t) (exec (.msrPmxevcntr t) s)))

/-- Without FEAT_FGT an access to PMXEVTYPER_EL0 beyond the accessible counters takes a permitted behaviour. Rests on
41_pmxevtyper.md section 2 (the set is derived, log 9); 60_exceptions.md section 1; 92_eei_decisions.md D4. For the
read and the write of PMXEVTYPER_EL0 with FEAT_PMUv3, without FEAT_FGT, in a state R43 admits and SEL not 31: if
SEL is at least NUM_PMU_COUNTERS, the outcome is Undefined, RAZ/WI, NOP, or the access with some accessible counter
in place of SEL; if SEL is implemented but not accessible (and no earlier arm holds), the outcome is one of these
or a trap to EL2. Which one is a free value (log 8). -/
def Obligations.UnpredictableTypeAccessIsPermitted : Prop :=
  ∀ (t : Nat) (s : State), s.cfg.featPMUv3 = true → s.cfg.featFGT = false → ¬HpmnRefused s → s.ctl.pmselrSel ≠ 31 →
    (s.cfg.numCounters.val ≤ s.ctl.pmselrSel.toNat →
      PermittedAnywhere s (s.setX t 0) (fun k => s.setX t (s.readEvtyper k)) (exec (.mrsPmxevtyper t) s)
      ∧ PermittedAnywhere s s (fun k => s.setEvtyper k (s.readX t)) (exec (.msrPmxevtyper t) s))
    ∧ (s.ctl.pmselrSel.toNat < s.cfg.numCounters.val → pseudoNumAccessible s ≤ s.ctl.pmselrSel.toNat →
      ¬SddPriority s → s.ctl.mdcrEl2.tpm = false →
      ((s.pstate.el = .el0 → El0Enabled (.mrsPmxevtyper t) s) →
        PermittedAnywhere s (s.setX t 0) (fun k => s.setX t (s.readEvtyper k)) (exec (.mrsPmxevtyper t) s)
        ∨ TrappedToEL2 (.mrsPmxevtyper t) (exec (.mrsPmxevtyper t) s))
      ∧ ((s.pstate.el = .el0 → El0Enabled (.msrPmxevtyper t) s) →
        PermittedAnywhere s s (fun k => s.setEvtyper k (s.readX t)) (exec (.msrPmxevtyper t) s)
        ∨ TrappedToEL2 (.msrPmxevtyper t) (exec (.msrPmxevtyper t) s)))

/-- Each permitted CONSTRAINED UNPREDICTABLE behaviour is reached under some value of the free choice. Rests on
40_pmxevcntr.md section 3 (the five behaviours); 92_eei_decisions.md D4. For every effect and state: some choice
gives Undefined, some RAZ/WI, some NOP, for every k below the number of accessible counters some choice gives the
access with k, and in arm F some choice gives the trap to EL2. So the free choice leaves out no permitted
behaviour. -/
def Obligations.EveryPermittedBehaviourIsAChoice : Prop :=
  ∀ (w : CuWhere) (e : PmuEffect) (s : State),
    (∃ c, constrainedUnpredictable c w e s = .fault .undefined)
    ∧ (∃ c, constrainedUnpredictable c w e s = .next (e.ignored s).advance.bumpDraws)
    ∧ (∃ c, constrainedUnpredictable c w e s = .next s.advance.bumpDraws)
    ∧ (∀ n k, s.numAccessible = some n → k < n →
        ∃ c, constrainedUnpredictable c w e s = .next (e.perform k s).advance.bumpDraws)
    ∧ (w = .guest → ∃ c, constrainedUnpredictable c w e s = .fault (.systemAccessTrap .el2 0x18 e.iss))

/-- No instruction is refused but a PMU access below EL2 in a state the spec refuses for its HPMN. Rests on 10_state.md
section 5; 92_eei_decisions.md D10; 90_conflicts.md C11. For every instruction and state: if exec refuses, the
reason is hpmnOutOfRange, the instruction is a PMU one, the level is EL0 or EL1 with EL2 enabled, MDCR_EL2.HPMN
exceeds NUM_PMU_COUNTERS and no effective value is configured. It is the spec's decision D10 (log 12); what the
step does in such a state is RefusedHpmnStatesNeitherStepNorArise. -/
def Obligations.OnlyOutOfRangeHpmnRefusesAnInstruction : Prop :=
  ∀ (i : Instr) (s : State) (r : Refusal), exec i s = .refused r →
    r = .hpmnOutOfRange ∧ isPmuInstr i = true ∧ HpmnRefused s

/-- A state with EL2 enabled and HPMN out of range is refused at every step, no step leads to one, and no reset starts
in one. Rests on 10_state.md section 5; 92_eei_decisions.md D10; 90_conflicts.md C11. For every state with EL2
enabled, MDCR_EL2.HPMN above NUM_PMU_COUNTERS and no effective value configured, the step is refused as
hpmnOutOfRange whatever the move; a step that completes leaves no such state; a Debug state exit to EL2 that would
leave one is refused as hpmnOutOfRange; and each of the three resets with such a start state is refused as
illegalStartState. It is the spec's decision D10 (log 12). -/
def Obligations.RefusedHpmnStatesNeitherStepNorArise : Prop :=
  ∀ s : State,
    (¬StateAdmitted s → step s = .refused .hpmnOutOfRange)
    ∧ (∀ s' : State, step s = .next s' → StateAdmitted s')
    ∧ (∀ rest : List HostMove, StateAdmitted s → s.inputs = .exitDebug :: rest → s.halted = true →
        s.cfg.aarch64Supported = true → s.dspsr.getLsbD 4 = false → ReturnableMode s.cfg (s.dspsr.extractLsb' 0 4) →
        s.dspsr.extractLsb' 2 2 = 0b10 → ¬HpmnAdmitted s → step s = .refused .hpmnOutOfRange)
    ∧ (∀ (a : Arch) (rest : List HostMove), StateAdmitted s → ¬StateAdmitted (s.setArch a) →
        s.inputs = .warmReset a :: rest ∨ s.inputs = .coldReset a :: rest ∨ s.inputs = .externalDebugReset a :: rest →
        step s = .refused .illegalStartState)

/-- At EL0 with UEN set, a counter PMUACR_EL1 masks reads as zero and ignores writes; ER makes it read-only. Rests on
40_pmxevcntr.md section 3 (prose on FEAT_PMUv3p9); 92_eei_decisions.md D6. With FEAT_PMUv3p9, at EL0, UEN 1, an
implemented counter and no EL2 or EL3 control acting: if P<SEL> is 0 the read puts 0 in Xt and the write changes no
counter; if ER is 1 the write changes no counter; reads are not affected by ER. That traps come first is the spec's
decision D6 (log 14). -/
def Obligations.MaskedCounterReadsZeroAndIgnoresWrites : Prop :=
  ∀ (t : Nat) (s : State), s.cfg.featPMUv3 = true → UenActs s → s.pstate.el = .el0 →
    s.ctl.pmselrSel.toNat < s.cfg.numCounters.val → EL3LetsThrough s →
    (EL2LetsThrough s.ctl.hdfgrtrEl2.pmevcntrn true s →
      exec (.mrsPmxevcntr t) s = .next (s.setX t
        (if s.ctl.pmuacr.p.getLsbD s.ctl.pmselrSel.toNat then s.readCounter s.ctl.pmselrSel.toNat else 0)).advance)
    ∧ (EL2LetsThrough s.ctl.hdfgwtrEl2.pmevcntrn true s →
        (s.ctl.pmuacr.p.getLsbD s.ctl.pmselrSel.toNat = false ∨ s.ctl.pmuserenr.er = true) →
        exec (.msrPmxevcntr t) s = .next s.advance)

/-- What EL0 gets from PMXEVCNTR_EL0 with its counter masked does not depend on any counter. Rests on 40_pmxevcntr.md
section 3 (prose on FEAT_PMUv3p9); 92_eei_decisions.md D6. With FEAT_FGT and FEAT_PMUv3p9, at EL0, UEN 1 and P<SEL>
0: replacing every event counter by other values changes neither the outcome of MRS or MSR PMXEVCNTR_EL0 nor any
part of its next state but the counters themselves. That UEN enables the access and P<SEL> masks it is the spec's
decision D6 (log 14). -/
def Obligations.MaskedCounterLeaksNothingToEl0 : Prop :=
  ∀ (t : Nat) (s : State) (v : Vector Word 31), s.cfg.featFGT = true → UenActs s → s.pstate.el = .el0 →
    s.ctl.pmuacr.p.getLsbD s.ctl.pmselrSel.toNat = false →
    exec (.mrsPmxevcntr t) { s with evcntr := v }
        = mapNext (fun u => { u with evcntr := v }) (exec (.mrsPmxevcntr t) s)
    ∧ exec (.msrPmxevcntr t) { s with evcntr := v }
        = mapNext (fun u => { u with evcntr := v }) (exec (.msrPmxevcntr t) s)

/-- With SEL 31 the type window reaches PMCCFILTR_EL0 while the counter window is Undefined. Rests on 41_pmxevtyper.md
section 2 (the selector value 31); 40_pmxevcntr.md section 4; 92_eei_decisions.md D2, D5, D21. With FEAT_PMUv3,
FEAT_FGT and SEL 31, for every NUM_PMU_COUNTERS and HPMN: at EL1 and above with no EL2 or EL3 control acting, MRS
PMXEVTYPER_EL0 gives PMCCFILTR_EL0 and MSR stores it with RES0 bits 0; and at every level MRS and MSR PMXEVCNTR_EL0
are Undefined. The RES0 bits are log 15 (PRESUMED, D5) and log 16 (their positions PRESUMED), the pc is log 5,
operand 31 log 7. -/
def Obligations.Selector31ReachesTheFilterNotACounter : Prop :=
  ∀ (t : Nat) (s : State), s.cfg.featPMUv3 = true → s.cfg.featFGT = true → s.ctl.pmselrSel = 31 →
    exec (.mrsPmxevcntr t) s = .fault .undefined ∧ exec (.msrPmxevcntr t) s = .fault .undefined
    ∧ (s.pstate.el ≠ .el0 → EL3LetsThrough s → EL2LetsThrough s.ctl.hdfgrtrEl2.pmevtypern false s →
        exec (.mrsPmxevtyper t) s = .next (s.setX t s.pmccfiltr).advance)
    ∧ (s.pstate.el ≠ .el0 → EL3LetsThrough s → EL2LetsThrough s.ctl.hdfgwtrEl2.pmevtypern false s →
        exec (.msrPmxevtyper t) s = .next (s.setPmccfiltr (s.readX t &&& pmccfiltrKeep s.cfg)).advance)

/-- Without FEAT_PMUv3p5 a counter moves 32 bits: reads zero-extend, writes drop the upper half. Rests on 10_state.md
section 2 (layout without FEAT_PMUv3p5); 40_pmxevcntr.md section 3; 92_eei_decisions.md D5. Without FEAT_PMUv3p5,
for every completion of an access that is not CONSTRAINED UNPREDICTABLE, with FEAT_FGT or without: after MRS
PMXEVCNTR_EL0 into Xt with t below 31, bits [63:32] of Xt are 0 and bits [31:0] are the selected counter's (or Xt
is 0 where masked at EL0); after MSR the selected counter's bits [63:32] are 0 and bits [31:0] are Xt's, unless the
write was ignored at EL0. The RES0 half is decision D5 (log 15), the masking log 14. -/
def Obligations.NarrowCountersKeepTheirUpperHalfZero : Prop :=
  ∀ (t : Nat) (s s' : State), s.cfg.featPMUv3p5 = false → ¬CuArises s →
    (t < 31 → exec (.mrsPmxevcntr t) s = .next s' →
      (s'.readX t).extractLsb' 32 32 = 0
      ∧ ((s'.readX t).extractLsb' 0 32 = (s.rawEvcntr s.ctl.pmselrSel.toNat).extractLsb' 0 32
        ∨ (s.pstate.el = .el0 ∧ UenActs s ∧ s'.readX t = 0)))
    ∧ (exec (.msrPmxevcntr t) s = .next s' →
      ((s'.rawEvcntr s.ctl.pmselrSel.toNat).extractLsb' 32 32 = 0
        ∧ (s'.rawEvcntr s.ctl.pmselrSel.toNat).extractLsb' 0 32 = (s.readX t).extractLsb' 0 32)
      ∨ (s.pstate.el = .el0 ∧ UenActs s ∧ s'.evcntr = s.evcntr))

/-- A counter written by MSR is read back by the next MRS when the PMU makes no move between. Rests on 40_pmxevcntr.md
section 4 (item 13); 92_eei_decisions.md D7, D8. For every state R43 admits whose next two moves supply an MSR and
an MRS of PMXEVCNTR_EL0 that nothing stops or masks, with no PMU move between them, two steps complete and the
destination holds the written value at the counter's width, every other register unchanged. That the write is seen
at once is the spec's decision D8 (log 23); the width is log 15, the admitted states log 12. -/
def Obligations.CounterReadsBackWhatWasWritten : Prop :=
  ∀ (s : State) (w1 w2 : InstrWord) (rest : List HostMove) (t u : Nat), StateAdmitted s →
    s.inputs = .supply w1 :: .supply w2 :: rest → decode w1 = .instr (.msrPmxevcntr t) →
    decode w2 = .instr (.mrsPmxevcntr u) → u < 31 → s.cfg.featPMUv3 = true →
    s.ctl.pmselrSel.toNat < s.cfg.numCounters.val →
    (s.pstate.el = .el0 → s.ctl.pmuserenr.en = true ∧ ¬UenActs s) → EL3LetsThrough s →
    EL2LetsThrough s.ctl.hdfgwtrEl2.pmevcntrn true s → EL2LetsThrough s.ctl.hdfgrtrEl2.pmevcntrn true s →
    ∃ s1 s2, step s = .next s1 ∧ step s1 = .next s2
      ∧ s2.readX u = (if s.cfg.featPMUv3p5 then s.readX t else (s.readX t) &&& 0xFFFFFFFF)
      ∧ ∀ n, n ≠ u → s2.readX n = s.readX n

/-- A type register written by MSR is read back by the next MRS, PMCCFILTR_EL0 masked by its RES0 bits. Rests on
41_pmxevtyper.md section 2 (corner cases, item 7); 92_eei_decisions.md D5, D8, D25. For every state R43 admits
whose next two moves supply an MSR and an MRS of PMXEVTYPER_EL0 that nothing stops or masks, two steps complete and
the destination holds the written value, masked by the bits that exist when SEL is 31, every other register
unchanged. Decisions D8 and D25 (log 23, log 18); the RES0 bits are log 15 and log 16, the admitted states log 12. -/
def Obligations.TypeReadsBackWhatWasWritten : Prop :=
  ∀ (s : State) (w1 w2 : InstrWord) (rest : List HostMove) (t u : Nat), StateAdmitted s →
    s.inputs = .supply w1 :: .supply w2 :: rest → decode w1 = .instr (.msrPmxevtyper t) →
    decode w2 = .instr (.mrsPmxevtyper u) → u < 31 → s.cfg.featPMUv3 = true →
    (s.ctl.pmselrSel = 31 ∨ s.ctl.pmselrSel.toNat < s.cfg.numCounters.val) →
    (s.pstate.el = .el0 → s.ctl.pmuserenr.en = true ∧ ¬UenActs s) → EL3LetsThrough s →
    EL2LetsThrough s.ctl.hdfgwtrEl2.pmevtypern (decide (s.ctl.pmselrSel ≠ 31)) s → EL2LetsThrough s.ctl.hdfgrtrEl2.pmevtypern (decide (s.ctl.pmselrSel ≠ 31)) s →
    ∃ s1 s2, step s = .next s1 ∧ step s1 = .next s2
      ∧ s2.readX u = (if s.ctl.pmselrSel = 31 then s.readX t &&& pmccfiltrKeep s.cfg else s.readX t)
      ∧ ∀ n, n ≠ u → s2.readX n = s.readX n

/-- No instruction changes PSTATE, a control register, Debug state, the Security state or the cycle counter. Rests on
10_state.md section 1; 40_pmxevcntr.md section 4 (item 15); 60_exceptions.md section 9. For every instruction and
state: if exec answers a next state, PSTATE (every flag and field), every named-only control, Halted(), the
Security state, PMCCNTR_EL0, the configuration, the queue of moves and the external read data and permissions are
unchanged. -/
def Obligations.NoInstructionWritesPstateOrControls : Prop :=
  ∀ (i : Instr) (s s' : State), exec i s = .next s' →
    s'.pstate = s.pstate ∧ s'.ctl = s.ctl ∧ s'.halted = s.halted ∧ s'.security = s.security
      ∧ s'.pmccntr = s.pmccntr ∧ s'.cfg = s.cfg ∧ s'.inputs = s.inputs ∧ s'.extReadData = s.extReadData
      ∧ s'.extAllowed = s.extAllowed

/-- The three MRS instructions change nothing but Xt, the pc and the model's draw count, and no register when t is 31.
Rests on 40_pmxevcntr.md section 2; 41_pmxevtyper.md section 1; 42_dspsr.md section 1; 20_memory.md section 2;
92_eei_decisions.md D2, D4, D21. For each MRS instruction and state: if exec answers a next state, every other part
of the state is unchanged: every general-purpose register but Xt, PSTATE, every control, the event counters, the
type registers, PMCCFILTR_EL0, PMCCNTR_EL0, DSPSR_EL0, Halted() and the Security state. With t = 31 no general-
purpose register changes (log 7). The model's draw count (log 8) changes only in the CONSTRAINED UNPREDICTABLE
case, by 1; the pc is log 5. -/
def Obligations.ReadsChangeOnlyTheirDestination : Prop :=
  ∀ (i : Instr) (t : Nat) (s s' : State), (i = .mrsPmxevcntr t ∨ i = .mrsPmxevtyper t ∨ i = .mrsDspsr t) →
    exec i s = .next s' →
    { s' with x := s.x, pc := s.pc, draws := s.draws } = s
      ∧ (∀ u, u ≠ t → s'.readX u = s.readX u) ∧ (t = 31 → s'.x = s.x)
      ∧ (s'.draws = s.draws ∨ (CuArises s ∧ s'.draws = s.draws + 1))

/-- MSR PMXEVCNTR_EL0 changes only the selected counter, the pc and the draw count; CONSTRAINED UNPREDICTABLE, at most
one accessible counter instead. Rests on 40_pmxevcntr.md section 2; 40_pmxevcntr.md section 3; 10_state.md section
2; 92_eei_decisions.md D2, D4. If MSR PMXEVCNTR_EL0 answers a next state, everything but the event counters, the pc
and the model's draw count is unchanged: the general-purpose and event type registers, PMCCFILTR_EL0, PMCCNTR_EL0,
DSPSR_EL0, PSTATE, every control, Halted() and the Security state among it. Every event counter but number SEL is
unchanged; where the access is CONSTRAINED UNPREDICTABLE, at most one event counter changes, and none that is not
accessible. The draw count (log 8) changes only in that case, by 1; the pc is log 5. -/
def Obligations.CounterWritesChangeOnlyTheSelectedCounter : Prop :=
  ∀ (t : Nat) (s s' : State), exec (.msrPmxevcntr t) s = .next s' →
    { s' with evcntr := s.evcntr, pc := s.pc, draws := s.draws } = s
      ∧ (¬CuArises s → ∀ n, n ≠ s.ctl.pmselrSel.toNat → s'.rawEvcntr n = s.rawEvcntr n)
      ∧ (CuArises s → (∀ n, pseudoNumAccessible s ≤ n → s'.rawEvcntr n = s.rawEvcntr n)
        ∧ ∃ k, ∀ n, n ≠ k → s'.rawEvcntr n = s.rawEvcntr n)
      ∧ (s'.draws = s.draws ∨ (CuArises s ∧ s'.draws = s.draws + 1))

/-- MSR PMXEVTYPER_EL0 changes only the selected register, the pc and the draw count; CONSTRAINED UNPREDICTABLE, at
most one accessible type register instead. Rests on 41_pmxevtyper.md section 1; 41_pmxevtyper.md section 2;
92_eei_decisions.md D2, D4. If MSR PMXEVTYPER_EL0 answers a next state: with SEL 31 everything but PMCCFILTR_EL0
and the pc is unchanged; with any other SEL everything but the event type registers, the pc and the model's draw
count is unchanged: the general-purpose registers, event counters, PMCCFILTR_EL0, PMCCNTR_EL0, DSPSR_EL0, PSTATE,
every control, Halted() and the Security state among it. Then every event type register but number SEL is
unchanged; where the access is CONSTRAINED UNPREDICTABLE, at most one event type register changes, and none that is
not accessible (the set is log 9). The draw count (log 8) changes only in that case, by 1; the pc is log 5. -/
def Obligations.TypeWritesChangeOnlyTheSelectedRegister : Prop :=
  ∀ (t : Nat) (s s' : State), exec (.msrPmxevtyper t) s = .next s' →
    (s.ctl.pmselrSel = 31 → { s' with pmccfiltr := s.pmccfiltr, pc := s.pc } = s)
      ∧ (s.ctl.pmselrSel ≠ 31 → { s' with evtyper := s.evtyper, pc := s.pc, draws := s.draws } = s
        ∧ (¬CuArises s → ∀ n, n ≠ s.ctl.pmselrSel.toNat → s'.readEvtyper n = s.readEvtyper n)
        ∧ (CuArises s → (∀ n, pseudoNumAccessible s ≤ n → s'.readEvtyper n = s.readEvtyper n)
          ∧ ∃ k, ∀ n, n ≠ k → s'.readEvtyper n = s.readEvtyper n)
        ∧ (s'.draws = s.draws ∨ (CuArises s ∧ s'.draws = s.draws + 1)))

/-- A completing instruction adds 4 to the pc outside Debug state and leaves it alone inside. Rests on 10_state.md
section 1; 92_eei_decisions.md D2, D17. For every instruction and state: if exec answers a next state, the pc is
unchanged in Debug state, and outside it is the old pc + 4 wherever that sum fits in 64 bits (beyond, it is a free
value: log 6). The spec's decisions D2 and D17 (log 5). -/
def Obligations.CompletionAdvancesThePcByFour : Prop :=
  ∀ (i : Instr) (s s' : State), exec i s = .next s' →
    (s.halted = true → s'.pc = s.pc)
    ∧ (s.halted = false → s.pc.toNat + 4 < 2 ^ 64 → s'.pc.toNat = s.pc.toNat + 4)

/-- Entering Debug state writes PSTATE to DSPSR_EL0 bit by bit, RES0 bits 0, and halts. Rests on 42_dspsr.md section 2
(entering Debug state); 10_state.md section 6; 92_eei_decisions.md D5. For every state R43 admits, in AArch64 state
outside Debug state (AArch64 supported), whose next move enters Debug state: the step completes, Halted() is true,
every DSPSR_EL0 bit of the list is the PSTATE field it names (0 where the feature is absent), every other bit is 0,
and PSTATE, the pc, the general registers, every PMU register (PMCCNTR_EL0 too), every control and the Security
state are unchanged. That PSTATE and the pc keep their values is log 24, the zeros are log 15, the admitted states
log 12. -/
def Obligations.EnteringDebugStateSavesPstate : Prop :=
  ∀ (s : State) (rest : List HostMove), StateAdmitted s → s.inputs = .enterDebug :: rest → s.halted = false →
    s.pstate.nRW = false → s.cfg.aarch64Supported = true →
    ∃ s', step s = .next s' ∧ s'.halted = true ∧ s'.pstate = s.pstate ∧ s'.pc = s.pc ∧ s'.x = s.x
      ∧ s'.evcntr = s.evcntr ∧ s'.evtyper = s.evtyper ∧ s'.pmccfiltr = s.pmccfiltr ∧ s'.ctl = s.ctl
      ∧ s'.pmccntr = s.pmccntr ∧ s'.security = s.security
      ∧ s'.dspsr.getLsbD 32 = (s.cfg.featCSRE && s.pstate.csr)
      ∧ s'.dspsr.getLsbD 31 = s.pstate.n ∧ s'.dspsr.getLsbD 30 = s.pstate.z
      ∧ s'.dspsr.getLsbD 29 = s.pstate.c ∧ s'.dspsr.getLsbD 28 = s.pstate.v
      ∧ s'.dspsr.getLsbD 25 = (s.cfg.featMTE && s.pstate.tco) ∧ s'.dspsr.getLsbD 24 = (s.cfg.featDIT && s.pstate.dit)
      ∧ s'.dspsr.getLsbD 23 = (s.cfg.featUAO && s.pstate.uao) ∧ s'.dspsr.getLsbD 22 = (s.cfg.featPAN && s.pstate.pan)
      ∧ s'.dspsr.getLsbD 21 = s.pstate.ss ∧ s'.dspsr.getLsbD 20 = s.pstate.il
      ∧ s'.dspsr.getLsbD 12 = (s.cfg.featSSBS && s.pstate.ssbs)
      ∧ s'.dspsr.extractLsb' 10 2 = (if s.cfg.featBTI then s.pstate.btype else 0)
      ∧ s'.dspsr.getLsbD 9 = s.pstate.d ∧ s'.dspsr.getLsbD 8 = s.pstate.a
      ∧ s'.dspsr.getLsbD 7 = s.pstate.i ∧ s'.dspsr.getLsbD 6 = s.pstate.f
      ∧ (s'.dspsr.extractLsb' 2 2).toNat = elNumber s.pstate.el ∧ s'.dspsr.getLsbD 0 = s.pstate.sp
      ∧ ∀ k, (33 ≤ k ∨ k = 27 ∨ k = 26 ∨ (13 ≤ k ∧ k ≤ 19) ∨ k = 5 ∨ k = 4 ∨ k = 1) → s'.dspsr.getLsbD k = false

/-- Leaving Debug state to AArch64 state copies each field of DSPSR_EL0 back to PSTATE. Rests on 42_dspsr.md section 2
(exiting Debug state); 10_state.md section 6; 92_eei_decisions.md D23. For every state R43 admits, in Debug state,
whose next move leaves it, with DSPSR_EL0[4] 0 and a mode that is no illegal return (to EL2 only with HPMN in
range, log 12): the step completes, Halted() is false, every PSTATE field takes its DSPSR_EL0 bit (a field whose
feature is absent keeps its value), PSTATE.SS is the old one, the saved one or 0 (a free value, log 25), and the pc
(log 25), the general registers, the PMU registers (PMCCNTR_EL0 too), every control, the Security state and
DSPSR_EL0 are unchanged. -/
def Obligations.LeavingDebugStateRestoresPstate : Prop :=
  ∀ (s : State) (rest : List HostMove), StateAdmitted s → s.inputs = .exitDebug :: rest → s.halted = true →
    s.cfg.aarch64Supported = true → s.dspsr.getLsbD 4 = false → ReturnableMode s.cfg (s.dspsr.extractLsb' 0 4) →
    (s.dspsr.extractLsb' 2 2 = 0b10 → HpmnAdmitted s) →
    ∃ s', step s = .next s' ∧ s'.halted = false ∧ s'.pc = s.pc ∧ s'.x = s.x ∧ s'.dspsr = s.dspsr
      ∧ s'.evcntr = s.evcntr ∧ s'.evtyper = s.evtyper ∧ s'.pmccfiltr = s.pmccfiltr ∧ s'.ctl = s.ctl
      ∧ s'.pmccntr = s.pmccntr ∧ s'.security = s.security
      ∧ s'.pstate.n = s.dspsr.getLsbD 31 ∧ s'.pstate.z = s.dspsr.getLsbD 30 ∧ s'.pstate.c = s.dspsr.getLsbD 29
      ∧ s'.pstate.v = s.dspsr.getLsbD 28 ∧ s'.pstate.il = s.dspsr.getLsbD 20
      ∧ s'.pstate.d = s.dspsr.getLsbD 9 ∧ s'.pstate.a = s.dspsr.getLsbD 8 ∧ s'.pstate.i = s.dspsr.getLsbD 7
      ∧ s'.pstate.f = s.dspsr.getLsbD 6 ∧ s'.pstate.nRW = false
      ∧ elNumber s'.pstate.el = (s.dspsr.extractLsb' 2 2).toNat ∧ s'.pstate.sp = s.dspsr.getLsbD 0
      ∧ s'.pstate.csr = (if s.cfg.featCSRE then s.dspsr.getLsbD 32 else s.pstate.csr)
      ∧ s'.pstate.tco = (if s.cfg.featMTE then s.dspsr.getLsbD 25 else s.pstate.tco)
      ∧ s'.pstate.dit = (if s.cfg.featDIT then s.dspsr.getLsbD 24 else s.pstate.dit)
      ∧ s'.pstate.uao = (if s.cfg.featUAO then s.dspsr.getLsbD 23 else s.pstate.uao)
      ∧ s'.pstate.pan = (if s.cfg.featPAN then s.dspsr.getLsbD 22 else s.pstate.pan)
      ∧ s'.pstate.ssbs = (if s.cfg.featSSBS then s.dspsr.getLsbD 12 else s.pstate.ssbs)
      ∧ s'.pstate.btype = (if s.cfg.featBTI then s.dspsr.extractLsb' 10 2 else s.pstate.btype)
      ∧ (s'.pstate.ss = s.pstate.ss ∨ s'.pstate.ss = s.dspsr.getLsbD 21 ∨ s'.pstate.ss = false)

/-- Entering Debug state and leaving it at once restores every PSTATE field but SS, and changes nothing else but
DSPSR_EL0. Rests on 42_dspsr.md section 2 (corner cases, item 2); 92_eei_decisions.md D23. For every legal state
outside Debug state (AArch64 supported) whose next two moves enter and leave Debug state: both steps complete, and
afterwards PSTATE is what it was in every field but possibly SS, the PE is not halted, and every other register but
DSPSR_EL0 is what it was. The legal state is the invariant of EveryStepKeepsTheStateLegal; that PSTATE.SP is 0 at
EL0 in it is log 34 (DEDUCED). That the pc is kept is log 24 and log 25 (DESIGN CHOICE), as is that entry keeps
PSTATE. -/
def Obligations.EntryThenExitRestoresPstate : Prop :=
  ∀ (s : State) (rest : List HostMove), s.Legal → s.inputs = .enterDebug :: .exitDebug :: rest →
    s.halted = false → s.cfg.aarch64Supported = true →
    ∃ s1 s2, step s = .next s1 ∧ step s1 = .next s2 ∧ s2.inputs = rest
      ∧ { s2.pstate with ss := s.pstate.ss } = s.pstate
      ∧ { s2.toArch with pstate := s.pstate, dspsr := s.dspsr } = s.toArch

/-- A Debug state entry or exit the spec gives no meaning is refused by name, an AArch32 exit with the PSTATE its
copies give. Rests on 42_dspsr.md section 2 (entering and exiting Debug state); 10_state.md section 6;
92_eei_decisions.md D18, D23. For every state R43 admits. Entry is refused while halted, from AArch32 state, and
without AArch64 support (log 24, log 33). Exit is refused while not halted, and where the Execution state
DSPSR_EL0[4] selects is not supported (log 33). With it supported: DSPSR_EL0[4] 0 and M[3:0] reserved or of an
unimplemented level is refused as an illegal return; DSPSR_EL0[4] 1 is refused as an illegal return for a reserved
M[3:0], and otherwise as an exit to AArch32 whose PSTATE carries every field of the spec's list from its AArch32
position (a field whose feature is absent keeps its value). The spec's decisions D18 and D23 (log 25). -/
def Obligations.IllegalAndAArch32ExitsAreRefused : Prop :=
  ∀ (s : State) (rest : List HostMove), StateAdmitted s →
    (s.inputs = .enterDebug :: rest →
      (s.halted = true → step s = .refused .alreadyHalted)
      ∧ (s.halted = false → s.pstate.nRW = true → step s = .refused .enterFromAArch32)
      ∧ (s.halted = false → s.pstate.nRW = false → s.cfg.aarch64Supported = false → step s = .refused .layoutAbsent))
    ∧ (s.inputs = .exitDebug :: rest →
      (s.halted = false → step s = .refused .notHalted)
      ∧ (s.halted = true → s.dspsr.getLsbD 4 = false →
        (s.cfg.aarch64Supported = false → step s = .refused .layoutAbsent)
        ∧ (s.cfg.aarch64Supported = true → ¬ReturnableMode s.cfg (s.dspsr.extractLsb' 0 4) →
          step s = .refused (.illegalReturn (s.dspsr.extractLsb' 0 4))))
      ∧ (s.halted = true → s.dspsr.getLsbD 4 = true →
        (s.cfg.aarch32Supported = false → step s = .refused .layoutAbsent)
        ∧ (s.cfg.aarch32Supported = true →
          s.dspsr.extractLsb' 0 4 ∈ ([0b0100, 0b0101, 0b1000, 0b1001, 0b1100, 0b1101, 0b1110] : List (BitVec 4)) →
          step s = .refused (.illegalReturn (s.dspsr.extractLsb' 0 4)))
        ∧ (s.cfg.aarch32Supported = true →
          s.dspsr.extractLsb' 0 4 ∉ ([0b0100, 0b0101, 0b1000, 0b1001, 0b1100, 0b1101, 0b1110] : List (BitVec 4)) →
          ∃ p, step s = .refused (.exitToAArch32 p) ∧ p.nRW = true ∧ p.m = s.dspsr.extractLsb' 0 4
            ∧ p.n = s.dspsr.getLsbD 31 ∧ p.z = s.dspsr.getLsbD 30 ∧ p.c = s.dspsr.getLsbD 29 ∧ p.v = s.dspsr.getLsbD 28
            ∧ p.a = s.dspsr.getLsbD 8 ∧ p.i = s.dspsr.getLsbD 7 ∧ p.f = s.dspsr.getLsbD 6 ∧ p.il = s.dspsr.getLsbD 20
            ∧ p.it.extractLsb' 2 6 = s.dspsr.extractLsb' 10 6 ∧ p.it.extractLsb' 0 2 = s.dspsr.extractLsb' 25 2
            ∧ p.ge = s.dspsr.extractLsb' 16 4 ∧ p.q = s.dspsr.getLsbD 27 ∧ p.e = s.dspsr.getLsbD 9
            ∧ p.t = s.dspsr.getLsbD 5 ∧ p.ss = s.dspsr.getLsbD 21
            ∧ p.pan = (if s.cfg.featPAN then s.dspsr.getLsbD 22 else s.pstate.pan)
            ∧ p.dit = (if s.cfg.featDIT then s.dspsr.getLsbD 24 else s.pstate.dit)
            ∧ p.ssbs = (if s.cfg.featSSBS then s.dspsr.getLsbD 23 else s.pstate.ssbs))))

/-- Res0Mask clears exactly the RES0 bits of the layout bit 4 selects, and forces E in the AArch32 one. Rests on
42_dspsr.md section 2 (Res0Mask); 10_state.md section 6; 92_eei_decisions.md D5. For every configuration and value
and every bit: under the AArch64 layout (bit 4 clear) the bit is kept iff the layout and its feature keep it; under
the AArch32 layout the same with that layout's bits, and bit 9 is 1 without little-endian support, 0 without big-
endian support. Masking twice is masking once. The RES0 reading is the spec's decision D5 (log 15), and that bit 4
of the value selects the layout is log 33 (DEDUCED). -/
def Obligations.Res0MaskKeepsExactlyTheLayoutsBits : Prop :=
  ∀ (c : Config) (v : Word),
    (v.getLsbD 4 = false → ∀ k, (res0Mask c v).getLsbD k = (v.getLsbD k && kept64 c k))
    ∧ (v.getLsbD 4 = true → ∀ k, k ≠ 9 → (res0Mask c v).getLsbD k = (v.getLsbD k && kept32 c k))
    ∧ (v.getLsbD 4 = true → c.bigEndian = true ∨ c.littleEndian = true →
        (res0Mask c v).getLsbD 9 = (!c.littleEndian || (c.bigEndian && v.getLsbD 9)))
    ∧ res0Mask c (res0Mask c v) = res0Mask c v

/-- The adopted reading of the cycle filter and the other reading differ exactly in the spec's six cases. Rests on
60_exceptions.md section 7 (the cycle filter); 10_state.md section 3; 92_eei_decisions.md D15, D16. For every value
of PMCCFILTR_EL0, Exception level and Security state: the adopted reading and reading A disagree iff one of the six
listed cases holds, and there reading A filters while the adopted one counts. Adopting reading B is the spec's
decision D15 (log 17, PRESUMED). The cases name the fields by their bits, whose positions below bit 26 are log 16
(PRESUMED, D16). -/
def Obligations.FilterReadingsDifferExactlyInSixCases : Prop :=
  ∀ (f : Word) (el : EL) (ss : Security),
    (cycleFilteredReadingA f el ss ≠ cycleFiltered f el ss ↔ FilterReadingsDiffer f el ss)
    ∧ (FilterReadingsDiffer f el ss →
        cycleFilteredReadingA f el ss = true ∧ cycleFiltered f el ss = false)

/-- A PMU move changes the cycle counter exactly where the current mode is not filtered. Rests on 60_exceptions.md
section 7; 10_state.md section 3; 92_eei_decisions.md D7, D15, D16. For every state R43 admits whose next move
offers the cycle counter a value: the step completes and changes nothing but the queue, except that PMCCNTR_EL0
takes the value when the PMU agent is present and neither U (EL0) nor P (EL1) nor NSH (EL2) nor M (EL3) filters the
current level in the current Security state under the adopted reading. Reading B is log 17, the bit positions log
16, the move log 19. -/
def Obligations.FilteredCycleCounterDoesNotChange : Prop :=
  ∀ (s : State) (v : Nat) (rest : List HostMove), StateAdmitted s → s.inputs = .pmuCycle v :: rest →
    step s = .next ((s.setInputs rest).setPmccntr
      (if s.cfg.countersFrozen = true
          ∨ (s.pstate.el = .el0 ∧ s.security = .secure ∧ s.pmccfiltr.getLsbD 30 = true)
          ∨ (s.pstate.el = .el0 ∧ s.security = .nonSecure ∧ s.pmccfiltr.getLsbD 30 ≠ s.pmccfiltr.getLsbD 28)
          ∨ (s.pstate.el = .el0 ∧ s.security = .realm ∧ s.pmccfiltr.getLsbD 30 ≠ s.pmccfiltr.getLsbD 21)
          ∨ (s.pstate.el = .el1 ∧ s.security = .secure ∧ s.pmccfiltr.getLsbD 31 = true)
          ∨ (s.pstate.el = .el1 ∧ s.security = .nonSecure ∧ s.pmccfiltr.getLsbD 31 ≠ s.pmccfiltr.getLsbD 29)
          ∨ (s.pstate.el = .el1 ∧ s.security = .realm ∧ s.pmccfiltr.getLsbD 31 ≠ s.pmccfiltr.getLsbD 22)
          ∨ (s.pstate.el = .el2 ∧ s.security = .nonSecure ∧ s.pmccfiltr.getLsbD 27 = false)
          ∨ (s.pstate.el = .el2 ∧ s.security = .secure ∧ s.pmccfiltr.getLsbD 27 = s.pmccfiltr.getLsbD 24)
          ∨ (s.pstate.el = .el2 ∧ s.security = .realm ∧ s.pmccfiltr.getLsbD 27 = s.pmccfiltr.getLsbD 20)
          ∨ (s.pstate.el = .el3 ∧ s.pmccfiltr.getLsbD 26 ≠ s.pmccfiltr.getLsbD 31)
        then s.pmccntr else v))

/-- A PMU move puts any value of the counter's width into one implemented counter and changes nothing else. Rests on
60_exceptions.md section 7; 92_eei_decisions.md D7. For every state R43 admits whose next move is the PMU replacing
counter n: if n is implemented and the agent present, the step completes with counter n at the value (its low 32
bits without FEAT_PMUv3p5) and everything else but the queue unchanged; frozen, nothing but the queue changes; not
implemented, it is refused by name. The spec's decision D7 (log 19). -/
def Obligations.PmuChangesOneImplementedCounter : Prop :=
  ∀ (s : State) (n : Nat) (v : Word) (rest : List HostMove), StateAdmitted s →
    s.inputs = .pmuCount n v :: rest →
    (n < s.cfg.numCounters.val → s.cfg.countersFrozen = false →
      ∃ s', step s = .next s'
        ∧ s'.rawEvcntr n = (if s.cfg.featPMUv3p5 then v else v &&& 0xFFFFFFFF)
        ∧ (∀ m, m ≠ n → s'.rawEvcntr m = s.rawEvcntr m)
        ∧ { s' with evcntr := s.evcntr } = s.setInputs rest)
    ∧ (n < s.cfg.numCounters.val → s.cfg.countersFrozen = true → step s = .next (s.setInputs rest))
    ∧ (s.cfg.numCounters.val ≤ n → step s = .refused (.noSuchCounter n))

/-- An allowed external read returns the bits of PMCCFILTR_EL0 its offset holds, and changes nothing else. Rests on
20_memory.md section 1 (offsets and access primitives); 92_eei_decisions.md D14, D24. With FEAT_PMUv3_EXT, for
every state R43 admits whose next move reads the PMU block at an allowed offset from PMU_BASE: offset 0x47C in 32
bits returns bits [31:0] (FEAT_PMUv3_EXT32), 0x4F8 in 64 bits returns the register (FEAT_PMUv3_EXT64), 0xA7C in 32
bits returns bits [63:32] (FEAT_PMUv3_EXT32 with FEAT_PMUv3_TH or FEAT_PMUv3p8); only the returned data and the
queue change. The permission is log 26, PMU_BASE log 27. -/
def Obligations.ExternalReadReturnsItsRow : Prop :=
  ∀ (s : State) (rest : List HostMove), StateAdmitted s → s.cfg.featPMUv3EXT = true →
    (s.inputs = .extRead (s.cfg.pmuBase + 0x47C) 32 :: rest → s.cfg.featPMUv3EXT32 = true →
      (0x47C, false) ∈ s.extAllowed →
      step s = .next ((s.setInputs rest).setExtReadData (s.pmccfiltr &&& 0xFFFFFFFF)))
    ∧ (s.inputs = .extRead (s.cfg.pmuBase + 0x4F8) 64 :: rest → s.cfg.featPMUv3EXT64 = true →
      (0x4F8, false) ∈ s.extAllowed → step s = .next ((s.setInputs rest).setExtReadData s.pmccfiltr))
    ∧ (s.inputs = .extRead (s.cfg.pmuBase + 0xA7C) 32 :: rest → s.cfg.featPMUv3EXT32 = true →
      s.cfg.featPMUv3TH = true ∨ s.cfg.featPMUv3p8 = true → (0xA7C, false) ∈ s.extAllowed →
      step s = .next ((s.setInputs rest).setExtReadData (s.pmccfiltr >>> 32)))

/-- An allowed external write replaces exactly the bits of its offset, RES0 bits kept 0. Rests on 20_memory.md section
1 (offsets and access primitives); 92_eei_decisions.md D5, D14, D24. With FEAT_PMUv3_EXT, for every legal state
whose next move writes at an allowed offset: 0x47C replaces bits [31:0] and 0xA7C bits [63:32] by the low 32 bits
of the value, 0x4F8 all 64, in each case with the bits that do not exist kept 0; the other half and everything else
but the queue are unchanged. RES0 is log 15 and log 16, the permission log 26, PMU_BASE log 27. -/
def Obligations.ExternalWriteReplacesItsRow : Prop :=
  ∀ (s : State) (v : Word) (rest : List HostMove), s.Legal → s.cfg.featPMUv3EXT = true →
    (s.inputs = .extWrite (s.cfg.pmuBase + 0x47C) 32 v :: rest → s.cfg.featPMUv3EXT32 = true →
      (0x47C, true) ∈ s.extAllowed →
      ∃ w, step s = .next ((s.setInputs rest).setPmccfiltr w) ∧ w >>> 32 = s.pmccfiltr >>> 32
        ∧ w &&& 0xFFFFFFFF = v &&& 0xFFFFFFFF &&& pmccfiltrKeep s.cfg)
    ∧ (s.inputs = .extWrite (s.cfg.pmuBase + 0x4F8) 64 v :: rest → s.cfg.featPMUv3EXT64 = true →
      (0x4F8, true) ∈ s.extAllowed →
      step s = .next ((s.setInputs rest).setPmccfiltr (v &&& pmccfiltrKeep s.cfg)))
    ∧ (s.inputs = .extWrite (s.cfg.pmuBase + 0xA7C) 32 v :: rest → s.cfg.featPMUv3EXT32 = true →
      s.cfg.featPMUv3TH = true ∨ s.cfg.featPMUv3p8 = true → (0xA7C, true) ∈ s.extAllowed →
      ∃ w, step s = .next ((s.setInputs rest).setPmccfiltr w)
        ∧ w &&& 0xFFFFFFFF = s.pmccfiltr &&& 0xFFFFFFFF
        ∧ w >>> 32 = (v <<< 32 &&& pmccfiltrKeep s.cfg) >>> 32)

/-- An external access that is no present and allowed row is refused by name; without FEAT_PMUv3_EXT a row reads 0 and
ignores writes. Rests on 20_memory.md section 1 (offsets and access primitives); 20_memory.md section 2
(alignment); 93_implementation_defined.md I4; 92_eei_decisions.md D13, D14, D24. For every state R43 admits, every
address (below PMU_BASE too) and every size: a read or write that is not at PMU_BASE plus 0x47C, 0x4F8 or 0xA7C
with exactly 32, 64 or 32 bits is refused as no such access; at such a row without FEAT_PMUv3_EXT a read returns 0
and a write changes nothing but the queue; with it, a read or write is refused as not present at 0x47C without
FEAT_PMUv3_EXT32 and at 0x4F8 without FEAT_PMUv3_EXT64, as IMPLEMENTATION DEFINED at 0xA7C where its condition
fails, and at a present row as not allowed where ExtAccessAllowed does not hold for it. The spec's decisions D13,
D14 and D24 (log 26, log 27). -/
def Obligations.ExternalAccessOutsideItsRowsIsRefused : Prop :=
  ∀ (s : State) (addr bits : Nat) (v : Word) (rest : List HostMove), StateAdmitted s →
    (¬IsExtRow s.cfg addr bits →
      s.inputs = .extRead addr bits :: rest ∨ s.inputs = .extWrite addr bits v :: rest →
      step s = .refused (.extNoSuchAccess addr bits))
    ∧ (IsExtRow s.cfg addr bits → s.cfg.featPMUv3EXT = false →
      (s.inputs = .extRead addr bits :: rest → step s = .next ((s.setInputs rest).setExtReadData 0))
      ∧ (s.inputs = .extWrite addr bits v :: rest → step s = .next (s.setInputs rest)))
    ∧ (s.cfg.featPMUv3EXT = true → s.inputs = .extRead addr bits :: rest ∨ s.inputs = .extWrite addr bits v :: rest →
      (addr = s.cfg.pmuBase + 0x47C → bits = 32 → s.cfg.featPMUv3EXT32 = false → step s = .refused .extNotPresent)
      ∧ (addr = s.cfg.pmuBase + 0x4F8 → bits = 64 → s.cfg.featPMUv3EXT64 = false → step s = .refused .extNotPresent)
      ∧ (addr = s.cfg.pmuBase + 0xA7C → bits = 32 → ¬HighHalfPresent s.cfg →
        step s = .refused .extImplementationDefined))
    ∧ (s.cfg.featPMUv3EXT = true → IsExtRow s.cfg addr bits → ExtRowPresent s.cfg addr →
      (s.inputs = .extRead addr bits :: rest → (addr - s.cfg.pmuBase, false) ∉ s.extAllowed →
        step s = .refused .extNotAllowed)
      ∧ (s.inputs = .extWrite addr bits v :: rest → (addr - s.cfg.pmuBase, true) ∉ s.extAllowed →
        step s = .refused .extNotAllowed))

/-- What MSR PMXEVTYPER_EL0 with SEL 31 writes is what an external read of the register then returns. Rests on
10_state.md section 3 (views); 20_memory.md section 1; 41_pmxevtyper.md section 1 (worked example);
92_eei_decisions.md D5, D8, D24. For every state R43 admits with SEL 31 whose next moves supply an MSR
PMXEVTYPER_EL0 that nothing stops (EL1 and above) and an allowed external read of all 64 bits at offset 0x4F8: both
steps complete and the data returned is Xt with the RES0 bits of PMCCFILTR_EL0 0. One storage stands behind both
names. That the next move sees the write is log 23 (DESIGN CHOICE, D8), the RES0 bits are log 15 (PRESUMED, D5) and
log 16; EL0 is left to MsrPmxevtyperCompletes. -/
def Obligations.WindowWriteIsSeenExternally : Prop :=
  ∀ (s : State) (w : InstrWord) (t : Nat) (rest : List HostMove), StateAdmitted s →
    s.inputs = .supply w :: .extRead (s.cfg.pmuBase + 0x4F8) 64 :: rest → decode w = .instr (.msrPmxevtyper t) →
    s.cfg.featPMUv3 = true → s.ctl.pmselrSel = 31 → s.pstate.el ≠ .el0 → EL3LetsThrough s →
    EL2LetsThrough s.ctl.hdfgwtrEl2.pmevtypern false s → s.cfg.featPMUv3EXT = true → s.cfg.featPMUv3EXT64 = true →
    (0x4F8, false) ∈ s.extAllowed →
    ∃ s1 s2, step s = .next s1 ∧ step s1 = .next s2
      ∧ s2.extReadData = s.readX t &&& pmccfiltrKeep s.cfg

/-- The move that changes the controls completes with the given controls and changes nothing else, unless R43 refuses
the result. Rests on 60_exceptions.md section 9 (moves of the host, last row); 92_eei_decisions.md D10. For every
state R43 admits whose next move replaces the named-only controls by c: if R43 admits the state with c, the step
completes with exactly the controls c and everything else but the queue unchanged; if not, it is refused as
hpmnOutOfRange and nothing of c is taken. That every other combination can occur is log 29, the refusal is log 12
(D10). -/
def Obligations.ControlsMoveReplacesTheControlsOnly : Prop :=
  ∀ (s : State) (c : Controls) (rest : List HostMove), StateAdmitted s → s.inputs = .setControls c :: rest →
    (StateAdmitted (s.setCtl c) →
      ∃ s', step s = .next s' ∧ s'.ctl = c ∧ s'.inputs = rest ∧ { s' with ctl := s.ctl, inputs := s.inputs } = s)
    ∧ (¬StateAdmitted (s.setCtl c) → step s = .refused .hpmnOutOfRange)

/-- The state after reset meets the model's invariant. Rests on 70_reset_and_hazards.md section 2; 10_state.md sections
1 to 3, 5 and 6; 92_eei_decisions.md D5, D10. State.reset is legal: its level is implemented, PSTATE.SP is 0 at
EL0, it is in AArch64 state, no absent PSTATE field is set, absent counters and the upper halves of narrow ones are
0, RES0 bits are 0, and HPMN is in range where EL2 is enabled. That PSTATE.SP is 0 at EL0 is log 34 (DEDUCED), RES0
log 15 and log 16, HPMN log 12. Its particular values are the model's (log 3, log 4). -/
def Obligations.ResetStateIsLegal : Prop :=
  State.reset.Legal

/-- Every step of every agent keeps the state legal. Rests on 10_state.md sections 1 to 3, 5 and 6; 42_dspsr.md section
2; 60_exceptions.md section 7; 92_eei_decisions.md D5, D10. For every legal state, if step answers a next state,
that state is legal: the current level stays an implemented one, PSTATE.SP stays 0 at EL0, the PE stays in AArch64
state, no PSTATE field of an absent feature becomes set, a counter without FEAT_PMUv3p5 keeps bits [63:32] 0, a
counter that does not exist stays 0, the RES0 bits of PMCCFILTR_EL0 and DSPSR_EL0 stay 0, and HPMN stays in range
where EL2 is enabled, whichever instruction, PMU, debugger, external, reset or control move it was. The SP clause
and the AArch32-only fields are log 34 (DEDUCED), RES0 is log 15 and log 16, HPMN log 12. -/
def Obligations.EveryStepKeepsTheStateLegal : Prop :=
  ∀ (s s' : State), s.Legal → step s = .next s' → s'.Legal

/-- Every state a run reaches from a legal state is legal and has the same configuration. Rests on 00_scope.md section
5; 10_state.md sections 1 to 3, 5 and 6; 42_dspsr.md section 2; 92_eei_decisions.md D5, D10. For every two states
with the second reached from the first by steps: the configuration is the same, and if the first is legal so is the
second. Legal is the invariant of EveryStepKeepsTheStateLegal: its PSTATE.SP 0 at EL0 and AArch32-only fields are
log 34 (DEDUCED), the RES0 bits of PMCCFILTR_EL0 and DSPSR_EL0 log 15 (PRESUMED, D5) and log 16, the bound on HPMN
log 12 (D10). That the configuration is a field no step changes is log 3 (DESIGN CHOICE). -/
def Obligations.RunsKeepLegalityAndConfiguration : Prop :=
  ∀ (s s' : State), Reaches s s' → s'.cfg = s.cfg ∧ (s.Legal → s'.Legal)

/-- PSTATE changes only by leaving Debug state or by a reset (that entry keeps it is the model's choice, log 24). Rests
on 10_state.md section 1; 60_exceptions.md section 9. For every state: if a step completes and PSTATE is not what
it was (the Exception level among it), the move made was leaving Debug state or one of the three resets. No
instruction and no PMU, external or control move changes it. That entering Debug state does not change it is the
model's choice (log 24, DESIGN CHOICE): the spec says PSTATE is saved there and not whether it changes (N16). -/
def Obligations.OnlyDebugExitAndResetsChangePstate : Prop :=
  ∀ (s s' : State) (m : HostMove) (rest : List HostMove), s.inputs = m :: rest → step s = .next s' →
    s'.pstate ≠ s.pstate →
    m = .exitDebug ∨ ∃ a : Arch, m = .warmReset a ∨ m = .coldReset a ∨ m = .externalDebugReset a

/-- A reset completes from any legal draw; PMCCFILTR_EL0 is 0 to AArch32, and kept by an External debug reset. Rests on
70_reset_and_hazards.md section 1; 10_state.md section 3 (reset); 92_eei_decisions.md D11, D18, D22. For every
state R43 admits and every legal draw of the start state: a Warm reset and a Cold reset complete with the drawn
state, PMCCFILTR_EL0 being 0 where the reset is to an Exception level using AArch32 and the draw otherwise; an
External debug reset completes with the drawn state and PMCCFILTR_EL0 unchanged. The configuration, the remaining
moves and the draw count are kept. That the rest is drawn is D22 (log 28); what a legal draw is rests on log 34,
log 15, log 16 and log 12, as in EveryStepKeepsTheStateLegal. -/
def Obligations.ResetsTreatPmccfiltrAsStated : Prop :=
  ∀ (s : State) (a : Arch) (rest : List HostMove), StateAdmitted s → Arch.Legal s.cfg a →
    (s.inputs = .warmReset a :: rest ∨ s.inputs = .coldReset a :: rest →
      ∃ s', step s = .next s' ∧ s'.pmccfiltr = (if s.cfg.resetToAArch32 then 0 else a.pmccfiltr)
        ∧ { s'.toArch with pmccfiltr := a.pmccfiltr } = a ∧ s'.cfg = s.cfg ∧ s'.inputs = rest ∧ s'.draws = s.draws)
    ∧ (s.inputs = .externalDebugReset a :: rest →
      ∃ s', step s = .next s' ∧ s'.pmccfiltr = s.pmccfiltr
        ∧ { s'.toArch with pmccfiltr := a.pmccfiltr } = a ∧ s'.cfg = s.cfg ∧ s'.inputs = rest ∧ s'.draws = s.draws)
end

