-- ==== Sys2Proof/Laws/State.lean ====
section
/-! SUPPORT. Each field after each named update of the state, so that no later proof unfolds a record update. -/

namespace Sys2Proof.Machine

@[simp] theorem State.setPc_x (s : State) (v : Word) : (s.setPc v).x = s.x := rfl
@[simp] theorem State.setPc_pc (s : State) (v : Word) : (s.setPc v).pc = v := rfl
@[simp] theorem State.setPc_pstate (s : State) (v : Word) : (s.setPc v).pstate = s.pstate := rfl
@[simp] theorem State.setPc_evcntr (s : State) (v : Word) : (s.setPc v).evcntr = s.evcntr := rfl
@[simp] theorem State.setPc_evtyper (s : State) (v : Word) : (s.setPc v).evtyper = s.evtyper := rfl
@[simp] theorem State.setPc_pmccfiltr (s : State) (v : Word) : (s.setPc v).pmccfiltr = s.pmccfiltr := rfl
@[simp] theorem State.setPc_pmccntr (s : State) (v : Word) : (s.setPc v).pmccntr = s.pmccntr := rfl
@[simp] theorem State.setPc_dspsr (s : State) (v : Word) : (s.setPc v).dspsr = s.dspsr := rfl
@[simp] theorem State.setPc_ctl (s : State) (v : Word) : (s.setPc v).ctl = s.ctl := rfl
@[simp] theorem State.setPc_halted (s : State) (v : Word) : (s.setPc v).halted = s.halted := rfl
@[simp] theorem State.setPc_security (s : State) (v : Word) : (s.setPc v).security = s.security := rfl
@[simp] theorem State.setPc_cfg (s : State) (v : Word) : (s.setPc v).cfg = s.cfg := rfl
@[simp] theorem State.setPc_inputs (s : State) (v : Word) : (s.setPc v).inputs = s.inputs := rfl
@[simp] theorem State.setPc_draws (s : State) (v : Word) : (s.setPc v).draws = s.draws := rfl
@[simp] theorem State.setPc_extReadData (s : State) (v : Word) : (s.setPc v).extReadData = s.extReadData := rfl
@[simp] theorem State.setPc_extAllowed (s : State) (v : Word) : (s.setPc v).extAllowed = s.extAllowed := rfl

@[simp] theorem State.setEvcntr_x (s : State) (n : Nat) (v : Word) : (s.setEvcntr n v).x = s.x := rfl
@[simp] theorem State.setEvcntr_pc (s : State) (n : Nat) (v : Word) : (s.setEvcntr n v).pc = s.pc := rfl
@[simp] theorem State.setEvcntr_pstate (s : State) (n : Nat) (v : Word) : (s.setEvcntr n v).pstate = s.pstate := rfl
@[simp] theorem State.setEvcntr_evcntr (s : State) (n : Nat) (v : Word) : (s.setEvcntr n v).evcntr = s.evcntr.setIfInBounds n v := rfl
@[simp] theorem State.setEvcntr_evtyper (s : State) (n : Nat) (v : Word) : (s.setEvcntr n v).evtyper = s.evtyper := rfl
@[simp] theorem State.setEvcntr_pmccfiltr (s : State) (n : Nat) (v : Word) : (s.setEvcntr n v).pmccfiltr = s.pmccfiltr := rfl
@[simp] theorem State.setEvcntr_pmccntr (s : State) (n : Nat) (v : Word) : (s.setEvcntr n v).pmccntr = s.pmccntr := rfl
@[simp] theorem State.setEvcntr_dspsr (s : State) (n : Nat) (v : Word) : (s.setEvcntr n v).dspsr = s.dspsr := rfl
@[simp] theorem State.setEvcntr_ctl (s : State) (n : Nat) (v : Word) : (s.setEvcntr n v).ctl = s.ctl := rfl
@[simp] theorem State.setEvcntr_halted (s : State) (n : Nat) (v : Word) : (s.setEvcntr n v).halted = s.halted := rfl
@[simp] theorem State.setEvcntr_security (s : State) (n : Nat) (v : Word) : (s.setEvcntr n v).security = s.security := rfl
@[simp] theorem State.setEvcntr_cfg (s : State) (n : Nat) (v : Word) : (s.setEvcntr n v).cfg = s.cfg := rfl
@[simp] theorem State.setEvcntr_inputs (s : State) (n : Nat) (v : Word) : (s.setEvcntr n v).inputs = s.inputs := rfl
@[simp] theorem State.setEvcntr_draws (s : State) (n : Nat) (v : Word) : (s.setEvcntr n v).draws = s.draws := rfl
@[simp] theorem State.setEvcntr_extReadData (s : State) (n : Nat) (v : Word) : (s.setEvcntr n v).extReadData = s.extReadData := rfl
@[simp] theorem State.setEvcntr_extAllowed (s : State) (n : Nat) (v : Word) : (s.setEvcntr n v).extAllowed = s.extAllowed := rfl

@[simp] theorem State.setEvtyper_x (s : State) (n : Nat) (v : Word) : (s.setEvtyper n v).x = s.x := rfl
@[simp] theorem State.setEvtyper_pc (s : State) (n : Nat) (v : Word) : (s.setEvtyper n v).pc = s.pc := rfl
@[simp] theorem State.setEvtyper_pstate (s : State) (n : Nat) (v : Word) : (s.setEvtyper n v).pstate = s.pstate := rfl
@[simp] theorem State.setEvtyper_evcntr (s : State) (n : Nat) (v : Word) : (s.setEvtyper n v).evcntr = s.evcntr := rfl
@[simp] theorem State.setEvtyper_evtyper (s : State) (n : Nat) (v : Word) : (s.setEvtyper n v).evtyper = s.evtyper.setIfInBounds n v := rfl
@[simp] theorem State.setEvtyper_pmccfiltr (s : State) (n : Nat) (v : Word) : (s.setEvtyper n v).pmccfiltr = s.pmccfiltr := rfl
@[simp] theorem State.setEvtyper_pmccntr (s : State) (n : Nat) (v : Word) : (s.setEvtyper n v).pmccntr = s.pmccntr := rfl
@[simp] theorem State.setEvtyper_dspsr (s : State) (n : Nat) (v : Word) : (s.setEvtyper n v).dspsr = s.dspsr := rfl
@[simp] theorem State.setEvtyper_ctl (s : State) (n : Nat) (v : Word) : (s.setEvtyper n v).ctl = s.ctl := rfl
@[simp] theorem State.setEvtyper_halted (s : State) (n : Nat) (v : Word) : (s.setEvtyper n v).halted = s.halted := rfl
@[simp] theorem State.setEvtyper_security (s : State) (n : Nat) (v : Word) : (s.setEvtyper n v).security = s.security := rfl
@[simp] theorem State.setEvtyper_cfg (s : State) (n : Nat) (v : Word) : (s.setEvtyper n v).cfg = s.cfg := rfl
@[simp] theorem State.setEvtyper_inputs (s : State) (n : Nat) (v : Word) : (s.setEvtyper n v).inputs = s.inputs := rfl
@[simp] theorem State.setEvtyper_draws (s : State) (n : Nat) (v : Word) : (s.setEvtyper n v).draws = s.draws := rfl
@[simp] theorem State.setEvtyper_extReadData (s : State) (n : Nat) (v : Word) : (s.setEvtyper n v).extReadData = s.extReadData := rfl
@[simp] theorem State.setEvtyper_extAllowed (s : State) (n : Nat) (v : Word) : (s.setEvtyper n v).extAllowed = s.extAllowed := rfl

@[simp] theorem State.setPmccfiltr_x (s : State) (v : Word) : (s.setPmccfiltr v).x = s.x := rfl
@[simp] theorem State.setPmccfiltr_pc (s : State) (v : Word) : (s.setPmccfiltr v).pc = s.pc := rfl
@[simp] theorem State.setPmccfiltr_pstate (s : State) (v : Word) : (s.setPmccfiltr v).pstate = s.pstate := rfl
@[simp] theorem State.setPmccfiltr_evcntr (s : State) (v : Word) : (s.setPmccfiltr v).evcntr = s.evcntr := rfl
@[simp] theorem State.setPmccfiltr_evtyper (s : State) (v : Word) : (s.setPmccfiltr v).evtyper = s.evtyper := rfl
@[simp] theorem State.setPmccfiltr_pmccfiltr (s : State) (v : Word) : (s.setPmccfiltr v).pmccfiltr = v := rfl
@[simp] theorem State.setPmccfiltr_pmccntr (s : State) (v : Word) : (s.setPmccfiltr v).pmccntr = s.pmccntr := rfl
@[simp] theorem State.setPmccfiltr_dspsr (s : State) (v : Word) : (s.setPmccfiltr v).dspsr = s.dspsr := rfl
@[simp] theorem State.setPmccfiltr_ctl (s : State) (v : Word) : (s.setPmccfiltr v).ctl = s.ctl := rfl
@[simp] theorem State.setPmccfiltr_halted (s : State) (v : Word) : (s.setPmccfiltr v).halted = s.halted := rfl
@[simp] theorem State.setPmccfiltr_security (s : State) (v : Word) : (s.setPmccfiltr v).security = s.security := rfl
@[simp] theorem State.setPmccfiltr_cfg (s : State) (v : Word) : (s.setPmccfiltr v).cfg = s.cfg := rfl
@[simp] theorem State.setPmccfiltr_inputs (s : State) (v : Word) : (s.setPmccfiltr v).inputs = s.inputs := rfl
@[simp] theorem State.setPmccfiltr_draws (s : State) (v : Word) : (s.setPmccfiltr v).draws = s.draws := rfl
@[simp] theorem State.setPmccfiltr_extReadData (s : State) (v : Word) : (s.setPmccfiltr v).extReadData = s.extReadData := rfl
@[simp] theorem State.setPmccfiltr_extAllowed (s : State) (v : Word) : (s.setPmccfiltr v).extAllowed = s.extAllowed := rfl

@[simp] theorem State.setPmccntr_x (s : State) (v : Nat) : (s.setPmccntr v).x = s.x := rfl
@[simp] theorem State.setPmccntr_pc (s : State) (v : Nat) : (s.setPmccntr v).pc = s.pc := rfl
@[simp] theorem State.setPmccntr_pstate (s : State) (v : Nat) : (s.setPmccntr v).pstate = s.pstate := rfl
@[simp] theorem State.setPmccntr_evcntr (s : State) (v : Nat) : (s.setPmccntr v).evcntr = s.evcntr := rfl
@[simp] theorem State.setPmccntr_evtyper (s : State) (v : Nat) : (s.setPmccntr v).evtyper = s.evtyper := rfl
@[simp] theorem State.setPmccntr_pmccfiltr (s : State) (v : Nat) : (s.setPmccntr v).pmccfiltr = s.pmccfiltr := rfl
@[simp] theorem State.setPmccntr_pmccntr (s : State) (v : Nat) : (s.setPmccntr v).pmccntr = v := rfl
@[simp] theorem State.setPmccntr_dspsr (s : State) (v : Nat) : (s.setPmccntr v).dspsr = s.dspsr := rfl
@[simp] theorem State.setPmccntr_ctl (s : State) (v : Nat) : (s.setPmccntr v).ctl = s.ctl := rfl
@[simp] theorem State.setPmccntr_halted (s : State) (v : Nat) : (s.setPmccntr v).halted = s.halted := rfl
@[simp] theorem State.setPmccntr_security (s : State) (v : Nat) : (s.setPmccntr v).security = s.security := rfl
@[simp] theorem State.setPmccntr_cfg (s : State) (v : Nat) : (s.setPmccntr v).cfg = s.cfg := rfl
@[simp] theorem State.setPmccntr_inputs (s : State) (v : Nat) : (s.setPmccntr v).inputs = s.inputs := rfl
@[simp] theorem State.setPmccntr_draws (s : State) (v : Nat) : (s.setPmccntr v).draws = s.draws := rfl
@[simp] theorem State.setPmccntr_extReadData (s : State) (v : Nat) : (s.setPmccntr v).extReadData = s.extReadData := rfl
@[simp] theorem State.setPmccntr_extAllowed (s : State) (v : Nat) : (s.setPmccntr v).extAllowed = s.extAllowed := rfl

@[simp] theorem State.setDspsr_x (s : State) (v : Word) : (s.setDspsr v).x = s.x := rfl
@[simp] theorem State.setDspsr_pc (s : State) (v : Word) : (s.setDspsr v).pc = s.pc := rfl
@[simp] theorem State.setDspsr_pstate (s : State) (v : Word) : (s.setDspsr v).pstate = s.pstate := rfl
@[simp] theorem State.setDspsr_evcntr (s : State) (v : Word) : (s.setDspsr v).evcntr = s.evcntr := rfl
@[simp] theorem State.setDspsr_evtyper (s : State) (v : Word) : (s.setDspsr v).evtyper = s.evtyper := rfl
@[simp] theorem State.setDspsr_pmccfiltr (s : State) (v : Word) : (s.setDspsr v).pmccfiltr = s.pmccfiltr := rfl
@[simp] theorem State.setDspsr_pmccntr (s : State) (v : Word) : (s.setDspsr v).pmccntr = s.pmccntr := rfl
@[simp] theorem State.setDspsr_dspsr (s : State) (v : Word) : (s.setDspsr v).dspsr = v := rfl
@[simp] theorem State.setDspsr_ctl (s : State) (v : Word) : (s.setDspsr v).ctl = s.ctl := rfl
@[simp] theorem State.setDspsr_halted (s : State) (v : Word) : (s.setDspsr v).halted = s.halted := rfl
@[simp] theorem State.setDspsr_security (s : State) (v : Word) : (s.setDspsr v).security = s.security := rfl
@[simp] theorem State.setDspsr_cfg (s : State) (v : Word) : (s.setDspsr v).cfg = s.cfg := rfl
@[simp] theorem State.setDspsr_inputs (s : State) (v : Word) : (s.setDspsr v).inputs = s.inputs := rfl
@[simp] theorem State.setDspsr_draws (s : State) (v : Word) : (s.setDspsr v).draws = s.draws := rfl
@[simp] theorem State.setDspsr_extReadData (s : State) (v : Word) : (s.setDspsr v).extReadData = s.extReadData := rfl
@[simp] theorem State.setDspsr_extAllowed (s : State) (v : Word) : (s.setDspsr v).extAllowed = s.extAllowed := rfl

@[simp] theorem State.setPstate_x (s : State) (p : PState) : (s.setPstate p).x = s.x := rfl
@[simp] theorem State.setPstate_pc (s : State) (p : PState) : (s.setPstate p).pc = s.pc := rfl
@[simp] theorem State.setPstate_pstate (s : State) (p : PState) : (s.setPstate p).pstate = p := rfl
@[simp] theorem State.setPstate_evcntr (s : State) (p : PState) : (s.setPstate p).evcntr = s.evcntr := rfl
@[simp] theorem State.setPstate_evtyper (s : State) (p : PState) : (s.setPstate p).evtyper = s.evtyper := rfl
@[simp] theorem State.setPstate_pmccfiltr (s : State) (p : PState) : (s.setPstate p).pmccfiltr = s.pmccfiltr := rfl
@[simp] theorem State.setPstate_pmccntr (s : State) (p : PState) : (s.setPstate p).pmccntr = s.pmccntr := rfl
@[simp] theorem State.setPstate_dspsr (s : State) (p : PState) : (s.setPstate p).dspsr = s.dspsr := rfl
@[simp] theorem State.setPstate_ctl (s : State) (p : PState) : (s.setPstate p).ctl = s.ctl := rfl
@[simp] theorem State.setPstate_halted (s : State) (p : PState) : (s.setPstate p).halted = s.halted := rfl
@[simp] theorem State.setPstate_security (s : State) (p : PState) : (s.setPstate p).security = s.security := rfl
@[simp] theorem State.setPstate_cfg (s : State) (p : PState) : (s.setPstate p).cfg = s.cfg := rfl
@[simp] theorem State.setPstate_inputs (s : State) (p : PState) : (s.setPstate p).inputs = s.inputs := rfl
@[simp] theorem State.setPstate_draws (s : State) (p : PState) : (s.setPstate p).draws = s.draws := rfl
@[simp] theorem State.setPstate_extReadData (s : State) (p : PState) : (s.setPstate p).extReadData = s.extReadData := rfl
@[simp] theorem State.setPstate_extAllowed (s : State) (p : PState) : (s.setPstate p).extAllowed = s.extAllowed := rfl

@[simp] theorem State.setHalted_x (s : State) (h : Bool) : (s.setHalted h).x = s.x := rfl
@[simp] theorem State.setHalted_pc (s : State) (h : Bool) : (s.setHalted h).pc = s.pc := rfl
@[simp] theorem State.setHalted_pstate (s : State) (h : Bool) : (s.setHalted h).pstate = s.pstate := rfl
@[simp] theorem State.setHalted_evcntr (s : State) (h : Bool) : (s.setHalted h).evcntr = s.evcntr := rfl
@[simp] theorem State.setHalted_evtyper (s : State) (h : Bool) : (s.setHalted h).evtyper = s.evtyper := rfl
@[simp] theorem State.setHalted_pmccfiltr (s : State) (h : Bool) : (s.setHalted h).pmccfiltr = s.pmccfiltr := rfl
@[simp] theorem State.setHalted_pmccntr (s : State) (h : Bool) : (s.setHalted h).pmccntr = s.pmccntr := rfl
@[simp] theorem State.setHalted_dspsr (s : State) (h : Bool) : (s.setHalted h).dspsr = s.dspsr := rfl
@[simp] theorem State.setHalted_ctl (s : State) (h : Bool) : (s.setHalted h).ctl = s.ctl := rfl
@[simp] theorem State.setHalted_halted (s : State) (h : Bool) : (s.setHalted h).halted = h := rfl
@[simp] theorem State.setHalted_security (s : State) (h : Bool) : (s.setHalted h).security = s.security := rfl
@[simp] theorem State.setHalted_cfg (s : State) (h : Bool) : (s.setHalted h).cfg = s.cfg := rfl
@[simp] theorem State.setHalted_inputs (s : State) (h : Bool) : (s.setHalted h).inputs = s.inputs := rfl
@[simp] theorem State.setHalted_draws (s : State) (h : Bool) : (s.setHalted h).draws = s.draws := rfl
@[simp] theorem State.setHalted_extReadData (s : State) (h : Bool) : (s.setHalted h).extReadData = s.extReadData := rfl
@[simp] theorem State.setHalted_extAllowed (s : State) (h : Bool) : (s.setHalted h).extAllowed = s.extAllowed := rfl

@[simp] theorem State.setCtl_x (s : State) (c : Controls) : (s.setCtl c).x = s.x := rfl
@[simp] theorem State.setCtl_pc (s : State) (c : Controls) : (s.setCtl c).pc = s.pc := rfl
@[simp] theorem State.setCtl_pstate (s : State) (c : Controls) : (s.setCtl c).pstate = s.pstate := rfl
@[simp] theorem State.setCtl_evcntr (s : State) (c : Controls) : (s.setCtl c).evcntr = s.evcntr := rfl
@[simp] theorem State.setCtl_evtyper (s : State) (c : Controls) : (s.setCtl c).evtyper = s.evtyper := rfl
@[simp] theorem State.setCtl_pmccfiltr (s : State) (c : Controls) : (s.setCtl c).pmccfiltr = s.pmccfiltr := rfl
@[simp] theorem State.setCtl_pmccntr (s : State) (c : Controls) : (s.setCtl c).pmccntr = s.pmccntr := rfl
@[simp] theorem State.setCtl_dspsr (s : State) (c : Controls) : (s.setCtl c).dspsr = s.dspsr := rfl
@[simp] theorem State.setCtl_ctl (s : State) (c : Controls) : (s.setCtl c).ctl = c := rfl
@[simp] theorem State.setCtl_halted (s : State) (c : Controls) : (s.setCtl c).halted = s.halted := rfl
@[simp] theorem State.setCtl_security (s : State) (c : Controls) : (s.setCtl c).security = s.security := rfl
@[simp] theorem State.setCtl_cfg (s : State) (c : Controls) : (s.setCtl c).cfg = s.cfg := rfl
@[simp] theorem State.setCtl_inputs (s : State) (c : Controls) : (s.setCtl c).inputs = s.inputs := rfl
@[simp] theorem State.setCtl_draws (s : State) (c : Controls) : (s.setCtl c).draws = s.draws := rfl
@[simp] theorem State.setCtl_extReadData (s : State) (c : Controls) : (s.setCtl c).extReadData = s.extReadData := rfl
@[simp] theorem State.setCtl_extAllowed (s : State) (c : Controls) : (s.setCtl c).extAllowed = s.extAllowed := rfl

@[simp] theorem State.bumpDraws_x (s : State) : (s.bumpDraws).x = s.x := rfl
@[simp] theorem State.bumpDraws_pc (s : State) : (s.bumpDraws).pc = s.pc := rfl
@[simp] theorem State.bumpDraws_pstate (s : State) : (s.bumpDraws).pstate = s.pstate := rfl
@[simp] theorem State.bumpDraws_evcntr (s : State) : (s.bumpDraws).evcntr = s.evcntr := rfl
@[simp] theorem State.bumpDraws_evtyper (s : State) : (s.bumpDraws).evtyper = s.evtyper := rfl
@[simp] theorem State.bumpDraws_pmccfiltr (s : State) : (s.bumpDraws).pmccfiltr = s.pmccfiltr := rfl
@[simp] theorem State.bumpDraws_pmccntr (s : State) : (s.bumpDraws).pmccntr = s.pmccntr := rfl
@[simp] theorem State.bumpDraws_dspsr (s : State) : (s.bumpDraws).dspsr = s.dspsr := rfl
@[simp] theorem State.bumpDraws_ctl (s : State) : (s.bumpDraws).ctl = s.ctl := rfl
@[simp] theorem State.bumpDraws_halted (s : State) : (s.bumpDraws).halted = s.halted := rfl
@[simp] theorem State.bumpDraws_security (s : State) : (s.bumpDraws).security = s.security := rfl
@[simp] theorem State.bumpDraws_cfg (s : State) : (s.bumpDraws).cfg = s.cfg := rfl
@[simp] theorem State.bumpDraws_inputs (s : State) : (s.bumpDraws).inputs = s.inputs := rfl
@[simp] theorem State.bumpDraws_draws (s : State) : (s.bumpDraws).draws = s.draws + 1 := rfl
@[simp] theorem State.bumpDraws_extReadData (s : State) : (s.bumpDraws).extReadData = s.extReadData := rfl
@[simp] theorem State.bumpDraws_extAllowed (s : State) : (s.bumpDraws).extAllowed = s.extAllowed := rfl

@[simp] theorem State.setExtReadData_x (s : State) (v : Word) : (s.setExtReadData v).x = s.x := rfl
@[simp] theorem State.setExtReadData_pc (s : State) (v : Word) : (s.setExtReadData v).pc = s.pc := rfl
@[simp] theorem State.setExtReadData_pstate (s : State) (v : Word) : (s.setExtReadData v).pstate = s.pstate := rfl
@[simp] theorem State.setExtReadData_evcntr (s : State) (v : Word) : (s.setExtReadData v).evcntr = s.evcntr := rfl
@[simp] theorem State.setExtReadData_evtyper (s : State) (v : Word) : (s.setExtReadData v).evtyper = s.evtyper := rfl
@[simp] theorem State.setExtReadData_pmccfiltr (s : State) (v : Word) : (s.setExtReadData v).pmccfiltr = s.pmccfiltr := rfl
@[simp] theorem State.setExtReadData_pmccntr (s : State) (v : Word) : (s.setExtReadData v).pmccntr = s.pmccntr := rfl
@[simp] theorem State.setExtReadData_dspsr (s : State) (v : Word) : (s.setExtReadData v).dspsr = s.dspsr := rfl
@[simp] theorem State.setExtReadData_ctl (s : State) (v : Word) : (s.setExtReadData v).ctl = s.ctl := rfl
@[simp] theorem State.setExtReadData_halted (s : State) (v : Word) : (s.setExtReadData v).halted = s.halted := rfl
@[simp] theorem State.setExtReadData_security (s : State) (v : Word) : (s.setExtReadData v).security = s.security := rfl
@[simp] theorem State.setExtReadData_cfg (s : State) (v : Word) : (s.setExtReadData v).cfg = s.cfg := rfl
@[simp] theorem State.setExtReadData_inputs (s : State) (v : Word) : (s.setExtReadData v).inputs = s.inputs := rfl
@[simp] theorem State.setExtReadData_draws (s : State) (v : Word) : (s.setExtReadData v).draws = s.draws := rfl
@[simp] theorem State.setExtReadData_extReadData (s : State) (v : Word) : (s.setExtReadData v).extReadData = v := rfl
@[simp] theorem State.setExtReadData_extAllowed (s : State) (v : Word) : (s.setExtReadData v).extAllowed = s.extAllowed := rfl

@[simp] theorem State.setInputs_x (s : State) (q : List HostMove) : (s.setInputs q).x = s.x := rfl
@[simp] theorem State.setInputs_pc (s : State) (q : List HostMove) : (s.setInputs q).pc = s.pc := rfl
@[simp] theorem State.setInputs_pstate (s : State) (q : List HostMove) : (s.setInputs q).pstate = s.pstate := rfl
@[simp] theorem State.setInputs_evcntr (s : State) (q : List HostMove) : (s.setInputs q).evcntr = s.evcntr := rfl
@[simp] theorem State.setInputs_evtyper (s : State) (q : List HostMove) : (s.setInputs q).evtyper = s.evtyper := rfl
@[simp] theorem State.setInputs_pmccfiltr (s : State) (q : List HostMove) : (s.setInputs q).pmccfiltr = s.pmccfiltr := rfl
@[simp] theorem State.setInputs_pmccntr (s : State) (q : List HostMove) : (s.setInputs q).pmccntr = s.pmccntr := rfl
@[simp] theorem State.setInputs_dspsr (s : State) (q : List HostMove) : (s.setInputs q).dspsr = s.dspsr := rfl
@[simp] theorem State.setInputs_ctl (s : State) (q : List HostMove) : (s.setInputs q).ctl = s.ctl := rfl
@[simp] theorem State.setInputs_halted (s : State) (q : List HostMove) : (s.setInputs q).halted = s.halted := rfl
@[simp] theorem State.setInputs_security (s : State) (q : List HostMove) : (s.setInputs q).security = s.security := rfl
@[simp] theorem State.setInputs_cfg (s : State) (q : List HostMove) : (s.setInputs q).cfg = s.cfg := rfl
@[simp] theorem State.setInputs_inputs (s : State) (q : List HostMove) : (s.setInputs q).inputs = q := rfl
@[simp] theorem State.setInputs_draws (s : State) (q : List HostMove) : (s.setInputs q).draws = s.draws := rfl
@[simp] theorem State.setInputs_extReadData (s : State) (q : List HostMove) : (s.setInputs q).extReadData = s.extReadData := rfl
@[simp] theorem State.setInputs_extAllowed (s : State) (q : List HostMove) : (s.setInputs q).extAllowed = s.extAllowed := rfl

@[simp] theorem State.writeCounter_x (s : State) (n : Nat) (v : Word) : (s.writeCounter n v).x = s.x := rfl
@[simp] theorem State.writeCounter_pc (s : State) (n : Nat) (v : Word) : (s.writeCounter n v).pc = s.pc := rfl
@[simp] theorem State.writeCounter_pstate (s : State) (n : Nat) (v : Word) : (s.writeCounter n v).pstate = s.pstate := rfl
@[simp] theorem State.writeCounter_evcntr (s : State) (n : Nat) (v : Word) : (s.writeCounter n v).evcntr = s.evcntr.setIfInBounds n (counterValue s.cfg v) := rfl
@[simp] theorem State.writeCounter_evtyper (s : State) (n : Nat) (v : Word) : (s.writeCounter n v).evtyper = s.evtyper := rfl
@[simp] theorem State.writeCounter_pmccfiltr (s : State) (n : Nat) (v : Word) : (s.writeCounter n v).pmccfiltr = s.pmccfiltr := rfl
@[simp] theorem State.writeCounter_pmccntr (s : State) (n : Nat) (v : Word) : (s.writeCounter n v).pmccntr = s.pmccntr := rfl
@[simp] theorem State.writeCounter_dspsr (s : State) (n : Nat) (v : Word) : (s.writeCounter n v).dspsr = s.dspsr := rfl
@[simp] theorem State.writeCounter_ctl (s : State) (n : Nat) (v : Word) : (s.writeCounter n v).ctl = s.ctl := rfl
@[simp] theorem State.writeCounter_halted (s : State) (n : Nat) (v : Word) : (s.writeCounter n v).halted = s.halted := rfl
@[simp] theorem State.writeCounter_security (s : State) (n : Nat) (v : Word) : (s.writeCounter n v).security = s.security := rfl
@[simp] theorem State.writeCounter_cfg (s : State) (n : Nat) (v : Word) : (s.writeCounter n v).cfg = s.cfg := rfl
@[simp] theorem State.writeCounter_inputs (s : State) (n : Nat) (v : Word) : (s.writeCounter n v).inputs = s.inputs := rfl
@[simp] theorem State.writeCounter_draws (s : State) (n : Nat) (v : Word) : (s.writeCounter n v).draws = s.draws := rfl
@[simp] theorem State.writeCounter_extReadData (s : State) (n : Nat) (v : Word) : (s.writeCounter n v).extReadData = s.extReadData := rfl
@[simp] theorem State.writeCounter_extAllowed (s : State) (n : Nat) (v : Word) : (s.writeCounter n v).extAllowed = s.extAllowed := rfl

@[simp] theorem State.writePmccfiltr_x (s : State) (v : Word) : (s.writePmccfiltr v).x = s.x := rfl
@[simp] theorem State.writePmccfiltr_pc (s : State) (v : Word) : (s.writePmccfiltr v).pc = s.pc := rfl
@[simp] theorem State.writePmccfiltr_pstate (s : State) (v : Word) : (s.writePmccfiltr v).pstate = s.pstate := rfl
@[simp] theorem State.writePmccfiltr_evcntr (s : State) (v : Word) : (s.writePmccfiltr v).evcntr = s.evcntr := rfl
@[simp] theorem State.writePmccfiltr_evtyper (s : State) (v : Word) : (s.writePmccfiltr v).evtyper = s.evtyper := rfl
@[simp] theorem State.writePmccfiltr_pmccfiltr (s : State) (v : Word) : (s.writePmccfiltr v).pmccfiltr = v &&& pmccfiltrKeep s.cfg := rfl
@[simp] theorem State.writePmccfiltr_pmccntr (s : State) (v : Word) : (s.writePmccfiltr v).pmccntr = s.pmccntr := rfl
@[simp] theorem State.writePmccfiltr_dspsr (s : State) (v : Word) : (s.writePmccfiltr v).dspsr = s.dspsr := rfl
@[simp] theorem State.writePmccfiltr_ctl (s : State) (v : Word) : (s.writePmccfiltr v).ctl = s.ctl := rfl
@[simp] theorem State.writePmccfiltr_halted (s : State) (v : Word) : (s.writePmccfiltr v).halted = s.halted := rfl
@[simp] theorem State.writePmccfiltr_security (s : State) (v : Word) : (s.writePmccfiltr v).security = s.security := rfl
@[simp] theorem State.writePmccfiltr_cfg (s : State) (v : Word) : (s.writePmccfiltr v).cfg = s.cfg := rfl
@[simp] theorem State.writePmccfiltr_inputs (s : State) (v : Word) : (s.writePmccfiltr v).inputs = s.inputs := rfl
@[simp] theorem State.writePmccfiltr_draws (s : State) (v : Word) : (s.writePmccfiltr v).draws = s.draws := rfl
@[simp] theorem State.writePmccfiltr_extReadData (s : State) (v : Word) : (s.writePmccfiltr v).extReadData = s.extReadData := rfl
@[simp] theorem State.writePmccfiltr_extAllowed (s : State) (v : Word) : (s.writePmccfiltr v).extAllowed = s.extAllowed := rfl

@[simp] theorem State.setArch_x (s : State) (a : Arch) : (s.setArch a).x = a.x := rfl
@[simp] theorem State.setArch_pc (s : State) (a : Arch) : (s.setArch a).pc = a.pc := rfl
@[simp] theorem State.setArch_pstate (s : State) (a : Arch) : (s.setArch a).pstate = a.pstate := rfl
@[simp] theorem State.setArch_evcntr (s : State) (a : Arch) : (s.setArch a).evcntr = a.evcntr := rfl
@[simp] theorem State.setArch_evtyper (s : State) (a : Arch) : (s.setArch a).evtyper = a.evtyper := rfl
@[simp] theorem State.setArch_pmccfiltr (s : State) (a : Arch) : (s.setArch a).pmccfiltr = a.pmccfiltr := rfl
@[simp] theorem State.setArch_pmccntr (s : State) (a : Arch) : (s.setArch a).pmccntr = a.pmccntr := rfl
@[simp] theorem State.setArch_dspsr (s : State) (a : Arch) : (s.setArch a).dspsr = a.dspsr := rfl
@[simp] theorem State.setArch_ctl (s : State) (a : Arch) : (s.setArch a).ctl = a.ctl := rfl
@[simp] theorem State.setArch_halted (s : State) (a : Arch) : (s.setArch a).halted = a.halted := rfl
@[simp] theorem State.setArch_security (s : State) (a : Arch) : (s.setArch a).security = a.security := rfl
@[simp] theorem State.setArch_cfg (s : State) (a : Arch) : (s.setArch a).cfg = s.cfg := rfl
@[simp] theorem State.setArch_inputs (s : State) (a : Arch) : (s.setArch a).inputs = s.inputs := rfl
@[simp] theorem State.setArch_draws (s : State) (a : Arch) : (s.setArch a).draws = s.draws := rfl
@[simp] theorem State.setArch_extReadData (s : State) (a : Arch) : (s.setArch a).extReadData = s.extReadData := rfl
@[simp] theorem State.setArch_extAllowed (s : State) (a : Arch) : (s.setArch a).extAllowed = s.extAllowed := rfl

@[simp] theorem State.setX_pc (s : State) (t : Nat) (v : Word) : (s.setX t v).pc = s.pc := by
  unfold State.setX; split <;> rfl
@[simp] theorem State.setX_pstate (s : State) (t : Nat) (v : Word) : (s.setX t v).pstate = s.pstate := by
  unfold State.setX; split <;> rfl
@[simp] theorem State.setX_evcntr (s : State) (t : Nat) (v : Word) : (s.setX t v).evcntr = s.evcntr := by
  unfold State.setX; split <;> rfl
@[simp] theorem State.setX_evtyper (s : State) (t : Nat) (v : Word) : (s.setX t v).evtyper = s.evtyper := by
  unfold State.setX; split <;> rfl
@[simp] theorem State.setX_pmccfiltr (s : State) (t : Nat) (v : Word) : (s.setX t v).pmccfiltr = s.pmccfiltr := by
  unfold State.setX; split <;> rfl
@[simp] theorem State.setX_pmccntr (s : State) (t : Nat) (v : Word) : (s.setX t v).pmccntr = s.pmccntr := by
  unfold State.setX; split <;> rfl
@[simp] theorem State.setX_dspsr (s : State) (t : Nat) (v : Word) : (s.setX t v).dspsr = s.dspsr := by
  unfold State.setX; split <;> rfl
@[simp] theorem State.setX_ctl (s : State) (t : Nat) (v : Word) : (s.setX t v).ctl = s.ctl := by
  unfold State.setX; split <;> rfl
@[simp] theorem State.setX_halted (s : State) (t : Nat) (v : Word) : (s.setX t v).halted = s.halted := by
  unfold State.setX; split <;> rfl
@[simp] theorem State.setX_security (s : State) (t : Nat) (v : Word) : (s.setX t v).security = s.security := by
  unfold State.setX; split <;> rfl
@[simp] theorem State.setX_cfg (s : State) (t : Nat) (v : Word) : (s.setX t v).cfg = s.cfg := by
  unfold State.setX; split <;> rfl
@[simp] theorem State.setX_inputs (s : State) (t : Nat) (v : Word) : (s.setX t v).inputs = s.inputs := by
  unfold State.setX; split <;> rfl
@[simp] theorem State.setX_draws (s : State) (t : Nat) (v : Word) : (s.setX t v).draws = s.draws := by
  unfold State.setX; split <;> rfl
@[simp] theorem State.setX_extReadData (s : State) (t : Nat) (v : Word) : (s.setX t v).extReadData = s.extReadData := by
  unfold State.setX; split <;> rfl
@[simp] theorem State.setX_extAllowed (s : State) (t : Nat) (v : Word) : (s.setX t v).extAllowed = s.extAllowed := by
  unfold State.setX; split <;> rfl

@[simp] theorem State.advance_x (s : State) : s.advance.x = s.x := by
  unfold State.advance; split <;> rfl
@[simp] theorem State.advance_pstate (s : State) : s.advance.pstate = s.pstate := by
  unfold State.advance; split <;> rfl
@[simp] theorem State.advance_evcntr (s : State) : s.advance.evcntr = s.evcntr := by
  unfold State.advance; split <;> rfl
@[simp] theorem State.advance_evtyper (s : State) : s.advance.evtyper = s.evtyper := by
  unfold State.advance; split <;> rfl
@[simp] theorem State.advance_pmccfiltr (s : State) : s.advance.pmccfiltr = s.pmccfiltr := by
  unfold State.advance; split <;> rfl
@[simp] theorem State.advance_pmccntr (s : State) : s.advance.pmccntr = s.pmccntr := by
  unfold State.advance; split <;> rfl
@[simp] theorem State.advance_dspsr (s : State) : s.advance.dspsr = s.dspsr := by
  unfold State.advance; split <;> rfl
@[simp] theorem State.advance_ctl (s : State) : s.advance.ctl = s.ctl := by
  unfold State.advance; split <;> rfl
@[simp] theorem State.advance_halted (s : State) : s.advance.halted = s.halted := by
  unfold State.advance; split <;> rfl
@[simp] theorem State.advance_security (s : State) : s.advance.security = s.security := by
  unfold State.advance; split <;> rfl
@[simp] theorem State.advance_cfg (s : State) : s.advance.cfg = s.cfg := by
  unfold State.advance; split <;> rfl
@[simp] theorem State.advance_inputs (s : State) : s.advance.inputs = s.inputs := by
  unfold State.advance; split <;> rfl
@[simp] theorem State.advance_draws (s : State) : s.advance.draws = s.draws := by
  unfold State.advance; split <;> rfl
@[simp] theorem State.advance_extReadData (s : State) : s.advance.extReadData = s.extReadData := by
  unfold State.advance; split <;> rfl
@[simp] theorem State.advance_extAllowed (s : State) : s.advance.extAllowed = s.extAllowed := by
  unfold State.advance; split <;> rfl

@[simp] theorem State.writeType_x (s : State) (n : Nat) (v : Word) : (s.writeType n v).x = s.x := by
  unfold State.writeType; split <;> rfl
@[simp] theorem State.writeType_pc (s : State) (n : Nat) (v : Word) : (s.writeType n v).pc = s.pc := by
  unfold State.writeType; split <;> rfl
@[simp] theorem State.writeType_pstate (s : State) (n : Nat) (v : Word) : (s.writeType n v).pstate = s.pstate := by
  unfold State.writeType; split <;> rfl
@[simp] theorem State.writeType_evcntr (s : State) (n : Nat) (v : Word) : (s.writeType n v).evcntr = s.evcntr := by
  unfold State.writeType; split <;> rfl
@[simp] theorem State.writeType_pmccntr (s : State) (n : Nat) (v : Word) : (s.writeType n v).pmccntr = s.pmccntr := by
  unfold State.writeType; split <;> rfl
@[simp] theorem State.writeType_dspsr (s : State) (n : Nat) (v : Word) : (s.writeType n v).dspsr = s.dspsr := by
  unfold State.writeType; split <;> rfl
@[simp] theorem State.writeType_ctl (s : State) (n : Nat) (v : Word) : (s.writeType n v).ctl = s.ctl := by
  unfold State.writeType; split <;> rfl
@[simp] theorem State.writeType_halted (s : State) (n : Nat) (v : Word) : (s.writeType n v).halted = s.halted := by
  unfold State.writeType; split <;> rfl
@[simp] theorem State.writeType_security (s : State) (n : Nat) (v : Word) : (s.writeType n v).security = s.security := by
  unfold State.writeType; split <;> rfl
@[simp] theorem State.writeType_cfg (s : State) (n : Nat) (v : Word) : (s.writeType n v).cfg = s.cfg := by
  unfold State.writeType; split <;> rfl
@[simp] theorem State.writeType_inputs (s : State) (n : Nat) (v : Word) : (s.writeType n v).inputs = s.inputs := by
  unfold State.writeType; split <;> rfl
@[simp] theorem State.writeType_draws (s : State) (n : Nat) (v : Word) : (s.writeType n v).draws = s.draws := by
  unfold State.writeType; split <;> rfl
@[simp] theorem State.writeType_extReadData (s : State) (n : Nat) (v : Word) : (s.writeType n v).extReadData = s.extReadData := by
  unfold State.writeType; split <;> rfl
@[simp] theorem State.writeType_extAllowed (s : State) (n : Nat) (v : Word) : (s.writeType n v).extAllowed = s.extAllowed := by
  unfold State.writeType; split <;> rfl

/-- The program counter after completion (R21, D17). -/
theorem State.advance_pc (s : State) : s.advance.pc = if s.halted then s.pc else nextPc s.pc := by
  unfold State.advance; split <;> rfl

/-- The registers after a register write: one is replaced, none when the number is 31 (R20). -/
theorem State.readX_setX (s : State) (t : Nat) (v : Word) (u : Nat) :
    (s.setX t v).readX u = if u = t ∧ t < 31 then v else s.readX u := by
  unfold State.setX State.readX
  by_cases ht : t < 31
  · by_cases hu : u < 31
    · by_cases hut : u = t
      · simp [ht, hut]
      · have : t ≠ u := fun h => hut h.symm
        simp [ht, hu, hut, this]
    · have : u ≠ t := by omega
      simp [ht, hu, this]
  · simp [ht]

/-- XZR: a write of register 31 changes nothing (R20). -/
@[simp] theorem State.setX_31 (s : State) (v : Word) : s.setX 31 v = s := rfl

/-- XZR: register 31 reads as 0 (R20). -/
@[simp] theorem State.readX_31 (s : State) : s.readX 31 = 0 := rfl

@[simp] theorem State.readX_advance (s : State) (u : Nat) : s.advance.readX u = s.readX u := by
  simp [State.readX]

@[simp] theorem State.readX_bumpDraws (s : State) (u : Nat) : s.bumpDraws.readX u = s.readX u := rfl

@[simp] theorem State.readX_setInputs (s : State) (q : List HostMove) (u : Nat) :
    (s.setInputs q).readX u = s.readX u := rfl

@[simp] theorem State.readX_writeCounter (s : State) (n : Nat) (v : Word) (u : Nat) :
    (s.writeCounter n v).readX u = s.readX u := rfl

@[simp] theorem State.readX_writeType (s : State) (n : Nat) (v : Word) (u : Nat) :
    (s.writeType n v).readX u = s.readX u := by
  simp [State.readX]

/-- An event counter after a counter write (R27, R113). -/
theorem State.rawEvcntr_writeCounter (s : State) (n m : Nat) (v : Word) (h : n < 31) :
    (s.writeCounter n v).rawEvcntr m = if m = n then counterValue s.cfg v else s.rawEvcntr m := by
  unfold State.rawEvcntr
  by_cases hm : m = n
  · simp [hm, h]
  · have : n ≠ m := fun h => hm h.symm
    simp [hm, this]

/-- An event type register after a write (R30). -/
theorem State.readEvtyper_setEvtyper (s : State) (n m : Nat) (v : Word) (h : n < 31) :
    (s.setEvtyper n v).readEvtyper m = if m = n then v else s.readEvtyper m := by
  unfold State.readEvtyper
  by_cases hm : m = n
  · simp [hm, h]
  · have : n ≠ m := fun h => hm h.symm
    simp [hm, this]

/-- A value already narrowed to the counter's width is not narrowed further (R113). -/
@[simp] theorem counterValue_idem (c : Config) (v : Word) : counterValue c (counterValue c v) = counterValue c v := by
  unfold counterValue
  by_cases h : c.featPMUv3p5
  · simp [h]
  · simp only [h, Bool.false_eq_true, if_false]
    apply BitVec.eq_of_toNat_eq
    simp

end Sys2Proof.Machine
end

