-- ==== Sys2Proof/Laws/Ops.lean ====
section
/-! SUPPORT. What each shared operation can do, said once. -/

namespace Sys2Proof.Machine

/-- The number of accessible counters never exceeds the implemented ones (R43). -/
theorem State.numAccessible_le {s : State} {n : Nat} (h : s.numAccessible = some n) : n ≤ s.cfg.numCounters.val := by
  unfold State.numAccessible at h
  split at h
  · split at h
    · cases h; assumption
    · cases hc : s.cfg.hpmnOutOfRange with
      | none => simp [hc] at h
      | some m => simp [hc] at h; omega
  · cases h; exact Nat.le_refl _

/-- Everything a CONSTRAINED UNPREDICTABLE access can complete with (R114, behaviours 2 to 4). -/
theorem constrainedUnpredictable_next {c : CuChoice} {w : CuWhere} {e : PmuEffect} {s s' : State}
    (h : constrainedUnpredictable c w e s = .next s') :
    s' = (e.ignored s).advance.bumpDraws ∨ s' = s.advance.bumpDraws
      ∨ ∃ k n, s.numAccessible = some n ∧ k < n ∧ s' = (e.perform k s).advance.bumpDraws := by
  unfold constrainedUnpredictable at h
  cases c with
  | undefined => cases h
  | razWi => cases h; exact .inl rfl
  | nop => cases h; exact .inr (.inl rfl)
  | unknownSel k =>
    match hn : s.numAccessible with
    | none => simp [hn] at h
    | some 0 => simp [hn, raiseUndefined] at h
    | some (n + 1) =>
      simp only [hn] at h
      cases h
      exact .inr (.inr ⟨k % (n + 1), n + 1, rfl, Nat.mod_lt _ (Nat.succ_pos _), rfl⟩)
  | trapEL2 => cases w <;> simp [raiseUndefined, raiseSystemAccessTrap] at h

/-- Everything a PMU access can complete with. -/
theorem finishPmuAccess_next {e : PmuEffect} {v : Verdict} {s s' : State} (h : finishPmuAccess e v s = .next s') :
    (v = .perform ∧ s' = (e.perform s.sel s).advance) ∨ (v = .ignored ∧ s' = (e.ignored s).advance)
      ∨ ∃ w, v = .unpredictable w ∧ (s' = (e.ignored s).advance.bumpDraws ∨ s' = s.advance.bumpDraws
        ∨ ∃ k n, s.numAccessible = some n ∧ k < n ∧ s' = (e.perform k s).advance.bumpDraws) := by
  cases v with
  | undefined => cases h
  | trap t => cases h
  | unpredictable w => exact .inr (.inr ⟨w, rfl, constrainedUnpredictable_next h⟩)
  | hpmnRefused => cases h
  | ignored => cases h; exact .inr (.inl ⟨rfl, rfl⟩)
  | perform => cases h; exact .inl ⟨rfl, rfl⟩

/-- Arm G passes its continuation on, or decides itself. -/
theorem checkEL3Trap_eq (s : State) (r : Verdict) :
    checkEL3Trap s r = r ∨ (checkEL3Trap s r = .undefined ∧ s.sddUndef = true ∧ s.cfg.haveEL3 = true)
      ∨ (checkEL3Trap s r = .trap .el3 ∧ s.cfg.haveEL3 = true ∧ s.ctl.mdcrEl3Tpm = true ∧ s.sddUndef = false) := by
  unfold checkEL3Trap
  split
  · rename_i h
    simp only [Bool.and_eq_true] at h
    split
    · exact .inr (.inl ⟨rfl, by assumption, h.1⟩)
    · exact .inr (.inr ⟨rfl, h.1, h.2, by simp_all⟩)
  · exact .inl rfl

/-- Arms D to F pass their continuation on, or decide themselves, under EL2Enabled() only. -/
theorem checkEL2Traps_eq (q : PmuQuery) (fine : Bool) (s : State) (r : Verdict) :
    checkEL2Traps q fine s r = r
      ∨ (s.el2Enabled = true ∧ (checkEL2Traps q fine s r = .trap .el2
        ∨ (checkEL2Traps q fine s r = .unpredictable .guest ∧ s.cfg.featFGT = false)
        ∨ (checkEL2Traps q fine s r = .hpmnRefused ∧ s.numAccessible = none))) := by
  unfold checkEL2Traps
  by_cases h2 : s.el2Enabled
  · by_cases hf : fine
    · simp [h2, hf]
    · by_cases ht : s.ctl.mdcrEl2.tpm
      · simp [h2, hf, ht]
      · by_cases hq : q.exempt
        · simp [h2, hf, ht, hq]
        · cases hn : s.numAccessible with
          | none => simp [h2, hf, ht, hq]
          | some n =>
            by_cases hs : n ≤ s.sel
            · by_cases hg : s.cfg.featFGT <;> simp [h2, hf, ht, hq, hs, hg]
            · simp [h2, hf, ht, hq, hs]
  · simp [h2]

/-- An access is made only to an implemented counter, or to SEL 31 of PMXEVTYPER_EL0 (R193). -/
theorem checkPmuAccess_perform {q : PmuQuery} {s : State} (h : checkPmuAccess q s = .perform) :
    s.cfg.featPMUv3 = true ∧ (q.exempt = true ∨ s.sel < s.cfg.numCounters.val) := by
  unfold checkPmuAccess at h
  by_cases hp : s.cfg.featPMUv3
  · by_cases hq : q.exempt
    · exact ⟨hp, .inl hq⟩
    · by_cases hs : s.cfg.numCounters.val ≤ s.sel
      · by_cases hg : s.cfg.featFGT <;> simp [hp, hq, hs, hg] at h
      · exact ⟨hp, .inr (by omega)⟩
  · simp [hp] at h

/-- A state the admission lets through is the one given, and R43 admits it. -/
theorem nextIfAdmitted_next {s s' : State} (h : nextIfAdmitted s = .next s') : s' = s ∧ s.hpmnRefused = false := by
  unfold nextIfAdmitted at h
  by_cases hr : s.hpmnRefused
  · simp [hr] at h
  · simp only [hr, Bool.false_eq_true, if_false] at h
    cases h
    exact ⟨rfl, by simpa using hr⟩

/-- R43 admits a state whose three inputs to the check are those of an admitted one. -/
theorem State.hpmnRefused_congr {s t : State} (hc : t.cfg = s.cfg) (hl : t.ctl = s.ctl) (hp : t.pstate.el = s.pstate.el) :
    t.hpmnRefused = s.hpmnRefused := by
  simp [State.hpmnRefused, Arch.hpmnRefused, Arch.el2Enabled, hc, hl, hp]

end Sys2Proof.Machine
end

