-- ==== Sys2Proof/Laws/PerInstr.lean ====
section
/-! SUPPORT. Laws of the instructions as syntax, one lemma per constructor. -/

namespace Sys2Proof.Laws.AccessNamesInstr

/-- The triple of a well-formed instruction names that instruction (30_encoding.md R92). -/
def Statement (i : Instr) : Prop := i.wellFormed = true → instrOfAccess (accessOf i) = some i

/-- A 5-bit register number survives the encoding field (R91). -/
theorem operand_fits {t : Nat} (h : t < 32) : (BitVec.ofNat 5 t).toNat = t := by
  simp [BitVec.toNat_ofNat]; omega

theorem mrsPmxevcntr (t : Nat) : Statement (.mrsPmxevcntr t) := by
  intro h
  have ht : t < 32 := of_decide_eq_true h
  simp [instrOfAccess, accessOf, operand_fits ht, -BitVec.toNat_ofNat]

theorem msrPmxevcntr (t : Nat) : Statement (.msrPmxevcntr t) := by
  intro h
  have ht : t < 32 := of_decide_eq_true h
  simp [instrOfAccess, accessOf, operand_fits ht, -BitVec.toNat_ofNat]

theorem mrsPmxevtyper (t : Nat) : Statement (.mrsPmxevtyper t) := by
  intro h
  have ht : t < 32 := of_decide_eq_true h
  simp [instrOfAccess, accessOf, operand_fits ht, pointPmxevcntr, pointPmxevtyper, -BitVec.toNat_ofNat]

theorem msrPmxevtyper (t : Nat) : Statement (.msrPmxevtyper t) := by
  intro h
  have ht : t < 32 := of_decide_eq_true h
  simp [instrOfAccess, accessOf, operand_fits ht, pointPmxevcntr, pointPmxevtyper, -BitVec.toNat_ofNat]

theorem mrsDspsr (t : Nat) : Statement (.mrsDspsr t) := by
  intro h
  have ht : t < 32 := of_decide_eq_true h
  simp [instrOfAccess, accessOf, operand_fits ht, pointPmxevcntr, pointPmxevtyper, pointDspsr, -BitVec.toNat_ofNat]

theorem msrDspsr (t : Nat) : Statement (.msrDspsr t) := by
  intro h
  have ht : t < 32 := of_decide_eq_true h
  simp [instrOfAccess, accessOf, operand_fits ht, pointPmxevcntr, pointPmxevtyper, pointDspsr, -BitVec.toNat_ofNat]

end Sys2Proof.Laws.AccessNamesInstr
end

