-- ==== Sys2Proof/Laws/Step.lean ====
section
/-! SUPPORT. What one step can do, said once: the admission of R43, then one move. -/

namespace Sys2Proof.Machine

/-- The admission in the spec's words is the check the step makes (R43). -/
theorem stateAdmitted_iff (s : State) : StateAdmitted s ↔ s.hpmnRefused = false := by
  unfold StateAdmitted HpmnAdmitted pseudoEL2Enabled State.hpmnRefused Arch.hpmnRefused Arch.el2Enabled
  by_cases hl : s.ctl.mdcrEl2.hpmn.toNat ≤ s.cfg.numCounters.val
  · simp [hl, Nat.not_lt.mpr hl]
  · cases hn : s.cfg.hpmnOutOfRange <;> cases s.cfg.haveEL2 <;> cases s.ctl.el2On <;> cases s.pstate.el <;>
      simp [hl, Nat.lt_of_not_le hl]

/-- In an admitted state the step makes the next waiting move. -/
theorem step_of_admitted {s : State} {m : HostMove} {rest : List HostMove} (ha : s.hpmnRefused = false)
    (hi : s.inputs = m :: rest) : step s = runMove m (s.setInputs rest) := by
  simp only [step, runNext, ha, hi, Bool.false_eq_true, if_false]

/-- A step that completes made the next waiting move of an admitted state. -/
theorem step_next {s s' : State} (h : step s = .next s') :
    s.hpmnRefused = false ∧ ∃ m rest, s.inputs = m :: rest ∧ runMove m (s.setInputs rest) = .next s' := by
  by_cases ha : s.hpmnRefused
  · simp [step, runNext, ha] at h
  · have ha : s.hpmnRefused = false := by simpa using ha
    refine ⟨ha, ?_⟩
    match hi : s.inputs with
    | [] => simp [step, runNext, ha, hi] at h
    | m :: rest => exact ⟨m, rest, rfl, step_of_admitted ha hi ▸ h⟩

end Sys2Proof.Machine
end

