-- ==== Sys2Proof/Tests/Slice0.lean ====
section
/-! SUPPORT. Tests: decoding of the words the spec writes out, ill-formed terms the checks refuse, single steps of the
vectors of 95_test_vectors.md, and for every statement with hypotheses a state and operands that meet them. -/

namespace Sys2Proof.Tests

open Sys2Proof Sys2Proof.Machine

/-! ### Decoding (95_test_vectors.md section 5; the other words from the match values of 30_encoding.md R93) -/

theorem test_decode_mrs_pmxevcntr : decode 0b11010101001110111001110101000101 = .instr (.mrsPmxevcntr 5) := by decide
theorem test_decode_msr_pmxevcntr : decode 0b11010101000110111001110101000111 = .instr (.msrPmxevcntr 7) := by decide
theorem test_decode_mrs_pmxevtyper : decode 0b11010101001110111001110100100011 = .instr (.mrsPmxevtyper 3) := by decide
theorem test_decode_msr_pmxevtyper : decode 0b11010101000110111001110100100100 = .instr (.msrPmxevtyper 4) := by decide
theorem test_decode_mrs_dspsr : decode 0b11010101001110110100010100000000 = .instr (.mrsDspsr 0) := by decide
theorem test_decode_msr_dspsr : decode 0b11010101000110110100010100011111 = .instr (.msrDspsr 31) := by decide
theorem test_decode_wrong_op2 : decode 0xD53B9D65 = .unknown 0xD53B9D65 := by decide
theorem test_decode_wrong_crm : decode 0xD53B9C45 = .unknown 0xD53B9C45 := by decide
theorem test_decode_bit20_clear : decode 0xD50B9D40 = .unknown 0xD50B9D40 := by decide
theorem test_decode_zero : decode 0 = .unknown 0 := by decide
/-- op0 is 0b10 here, so the triple is not PMXEVCNTR_EL0's. -/
theorem test_decode_wrong_op0 : decode 0xD5339D40 = .unknown 0xD5339D40 := by decide
theorem test_encode_words : encode (.mrsPmxevcntr 31) = 0xD53B9D5F ∧ encode (.msrPmxevtyper 4) = 0xD51B9D24
    ∧ encode (.msrDspsr 1) = 0xD51B4501 := by decide
theorem test_table_word : decodeTableWord 32 0xD53B4500 = some (.mrsDspsr 0) ∧ decodeTableWord 40 0xD53B4500 = none
    ∧ decodeTableWord 16 0xD53B4500 = none := by decide
/-- ISS values of 95_test_vectors.md sections 2 and 7. -/
theorem test_syndromes : syndrome (accessOf (.mrsPmxevcntr 5)) = 0x34E4BB
    ∧ syndrome (accessOf (.msrPmxevcntr 7)) = 0x34E4FA ∧ syndrome (accessOf (.mrsPmxevcntr 31)) = 0x34E7FB
    ∧ syndrome (accessOf (.mrsPmxevtyper 3)) = 0x32E47B ∧ syndrome (accessOf (.msrPmxevtyper 4)) = 0x32E49A
    ∧ syndrome (accessOf (.msrPmxevcntr 0)) = 0x34E41A := by decide

/-! ### Well-formedness: each check refuses an ill-formed term -/

theorem test_wf_operand_refused : (Instr.mrsPmxevcntr 32).wellFormed = false ∧ (Instr.mrsPmxevcntr 31).wellFormed = true
    ∧ (Instr.msrPmxevcntr 32).wellFormed = false ∧ (Instr.mrsPmxevtyper 32).wellFormed = false
    ∧ (Instr.msrPmxevtyper 32).wellFormed = false ∧ (Instr.mrsDspsr 32).wellFormed = false
    ∧ (Instr.msrDspsr 32).wellFormed = false := by decide
theorem test_wf_base : baseConfig.wellFormed = true := by decide
theorem test_wf_features_refused :
    Config.featuresWellFormed { baseConfig with featPMUv3 := false, featPMUv3p8 := false } = false
    ∧ Config.featuresWellFormed { baseConfig with featPMUv3 := false, featPMUv3p5 := false } = false
    ∧ Config.wellFormed
      { baseConfig with featPMUv3 := false, featPMUv3p5 := false, featPMUv3p8 := false, featPMUv3p9 := true } = false := by
  decide
theorem test_wf_endian_refused : Config.wellFormed { baseConfig with bigEndian := false, littleEndian := false } = false := by
  decide
theorem test_wf_reset_refused :
    Config.wellFormed { baseConfig with resetToAArch32 := true, aarch32Supported := false } = false := by decide
def legal (c : Config) (a : Arch) : Bool := decide (Arch.Legal c a)
theorem test_legal_refused : legal baseConfig Arch.reset = true
    ∧ legal baseConfig { Arch.reset with pmccfiltr := 1 } = false
    ∧ legal baseConfig { Arch.reset with dspsr := 0x20 } = false
    ∧ legal { baseConfig with featPMUv3p5 := false } { Arch.reset with evcntr := Vector.replicate 31 0x100000000 } = false
    ∧ legal baseConfig { Arch.reset with evtyper := Vector.replicate 31 1 } = false
    ∧ legal { baseConfig with haveEL2 := false } { Arch.reset with pstate := { PState.zero with el := .el2 } } = false
    ∧ legal baseConfig { Arch.reset with pstate := { PState.zero with sp := true } } = false
    ∧ legal { baseConfig with numCounters := 3 } { Arch.reset with
        ctl := { Controls.zero with el2On := true, mdcrEl2 := { tpm := false, hpmn := 4 } } } = false
    ∧ legal { baseConfig with featPAN := false } { Arch.reset with pstate := { PState.zero with pan := true } } = false := by
  decide

/-! ### Small states -/

/-- The base state of 95_test_vectors.md sections 2 and 3, at a given level. -/
def baseAt (e : EL) : State :=
  { State.reset with
    x := (State.reset.x.setIfInBounds 7 0xFFFFFFFF00000010).setIfInBounds 4 0x01000000480000FF
    evcntr := State.reset.evcntr.setIfInBounds 2 0x1000000FF
    evtyper := State.reset.evtyper.setIfInBounds 2 0x11
    pmccfiltr := 0x88000000
    pstate := { PState.zero with el := e }
    ctl := { Controls.zero with pmselrSel := 2, mdcrEl2 := { tpm := false, hpmn := 6 }, scrEl3Fgten := true } }

def withSel (s : State) (n : BitVec 5) : State := s.setCtl { s.ctl with pmselrSel := n }
def withEL2 (s : State) (hpmn : BitVec 5) : State :=
  s.setCtl { s.ctl with el2On := true, mdcrEl2 := { tpm := false, hpmn := hpmn } }
def withEnable (s : State) (en er uen : Bool) : State :=
  s.setCtl { s.ctl with pmuserenr := { en := en, er := er, uen := uen, cr := false } }
def withP9 (s : State) : State := { s with cfg := { s.cfg with featPMUv3p9 := true } }
def withoutFGT (s : State) : State := { s with cfg := { s.cfg with featFGT := false } }
def withoutP5 (s : State) : State := { s with cfg := { s.cfg with featPMUv3p5 := false } }
def withTpm3 (s : State) : State := s.setCtl { s.ctl with mdcrEl3Tpm := true }
def withSdd (s : State) : State := (s.setHalted true).setCtl { s.ctl with edscrSdd := true }
def withFine (s : State) : State :=
  s.setCtl { s.ctl with
    hdfgrtrEl2 := { pmevcntrn := true, pmevtypern := true }
    hdfgwtrEl2 := { pmevcntrn := true, pmevtypern := true } }
/-- The guest of program P5: EL1 with EL2 enabled, four of six counters accessible. -/
def guest : State := withEL2 (baseAt .el1) 4
def halted (v : Word) : State := ((baseAt .el1).setHalted true).setDspsr v

def nextOf : Result → Option State
  | .next s => some s
  | .fault _ => none
  | .refused _ => none
def faultOf : Result → Option Fault
  | .next _ => none
  | .fault r => some r
  | .refused _ => none
def refusalOf : Result → Option Refusal
  | .next _ => none
  | .fault _ => none
  | .refused r => some r

/-! ### One step of each instruction and of each move (the vector is named in the comment) -/

/-- V1. -/
theorem test_mrs_pmxevcntr : (nextOf (exec (.mrsPmxevcntr 5) (baseAt .el1))).map (fun s => (s.readX 5, s.pc))
    = some (0x1000000FF, 4) := by decide
/-- V22. -/
theorem test_mrs_pmxevcntr_not_accessible : faultOf (exec (.mrsPmxevcntr 5) (withEL2 (baseAt .el1) 2))
    = some (.systemAccessTrap .el2 0x18 0x34E4BB) := by decide
/-- V3. -/
theorem test_msr_pmxevcntr_narrow :
    (nextOf (exec (.msrPmxevcntr 7) (withoutP5 (baseAt .el1)))).map (fun s => (s.rawEvcntr 2, s.readX 7))
    = some (0x10, 0xFFFFFFFF00000010) := by decide
/-- V12. -/
theorem test_msr_pmxevcntr_disabled : faultOf (exec (.msrPmxevcntr 7) (withEnable (baseAt .el0) false true false))
    = some (.systemAccessTrap .el1 0x18 0x34E4FA) := by decide
/-- T3. -/
theorem test_mrs_pmxevtyper_filter :
    (nextOf (exec (.mrsPmxevtyper 3) (withSel (baseAt .el1) 31))).map (fun s => s.readX 3) = some 0x88000000 := by decide
/-- T12. -/
theorem test_mrs_pmxevtyper_disabled : faultOf (exec (.mrsPmxevtyper 3) (withEnable (baseAt .el0) false true false))
    = some (.systemAccessTrap .el1 0x18 0x32E47B) := by decide
/-- T4. -/
theorem test_msr_pmxevtyper_filter :
    (nextOf (exec (.msrPmxevtyper 4) (withSel (baseAt .el1) 31))).map (fun s => s.pmccfiltr)
    = some 0x0100000048000000 := by decide
/-- T19. -/
theorem test_msr_pmxevtyper_fine_trap : faultOf (exec (.msrPmxevtyper 4) (withFine (withEL2 (baseAt .el1) 6)))
    = some (.systemAccessTrap .el2 0x18 0x32E49A) := by decide
/-- S1. -/
theorem test_mrs_dspsr : (nextOf (exec (.mrsDspsr 0) (halted 0xA00003C5))).map (fun s => (s.readX 0, s.pc))
    = some (0xA00003C5, 0) := by decide
/-- S2. -/
theorem test_mrs_dspsr_not_halted : faultOf (exec (.mrsDspsr 0) (baseAt .el3)) = some .undefined := by decide
/-- S6: bits [63:33], 27, 26, [19:13], 5 of the AArch64 layout are RES0. -/
theorem test_msr_dspsr_res0 :
    (nextOf (exec (.msrDspsr 7) ((halted 0).setX 7 0xFFFFFFFFFFFFFFEF))).map (fun s => s.dspsr) = some 0x1F3F01FCF := by
  decide
/-- S7: with bit 4 set the AArch32 layout keeps all of [31:0]. -/
theorem test_msr_dspsr_aarch32 :
    (nextOf (exec (.msrDspsr 7) ((halted 0).setX 7 0xFFFFFFFFFFFFFFFF))).map (fun s => s.dspsr) = some 0xFFFFFFFF := by
  decide
/-- DE2. -/
theorem test_enter_debug :
    (nextOf (enterDebug ((baseAt .el2).setPstate
      { PState.zero with z := true, pan := true, ss := true, a := true, el := .el2 }))).map (fun s => (s.dspsr, s.halted))
    = some (0x40600108, true) := by decide
/-- DX1, PSTATE.SS apart. -/
theorem test_exit_debug :
    (nextOf (exitDebug (halted 0xA00003C5))).map (fun s => (s.halted, { s.pstate with ss := false }))
    = some (false, { PState.zero with
        n := true, c := true, d := true, a := true, i := true, f := true, el := .el1, sp := true }) := by decide
/-- DX4. -/
theorem test_exit_reserved_mode : refusalOf (exitDebug (halted 2)) = some (.illegalReturn 2) := by decide
/-- The external view after T4. -/
theorem test_ext_write_low :
    (nextOf (extWrite 0x47C 32 0xFFFFFFFF
      { baseAt .el1 with pmccfiltr := 0x0100000048000000, extAllowed := [(0x47C, true)] })).map (fun s => s.pmccfiltr)
    = some 0x01000000FDF00000 := by decide
/-- The external view after T4. -/
theorem test_ext_read_high :
    (nextOf (extRead 0xA7C 32
      { baseAt .el1 with pmccfiltr := 0x0100000048000000, extAllowed := [(0xA7C, false)] })).map (fun s => s.extReadData)
    = some 0x01000000 := by decide
/-- Section 6: a disagreement case, where the adopted reading counts. -/
theorem test_cycle_filter : cycleFiltered 0xA8000000 .el1 .nonSecure = false
    ∧ cycleFilteredReadingA 0xA8000000 .el1 .nonSecure = true ∧ cycleFiltered 0x88000000 .el3 .secure = true
    ∧ cycleFiltered 0x8C000000 .el3 .secure = false ∧ cycleFiltered 0 .el2 .nonSecure = true := by decide
/-- Each opcode-table word placed by withFetchWord runs at once from reset (EL0, where the PMU accesses are disabled). -/
theorem test_placed_words_run : faultOf (step (State.reset.withFetchWord 32 0xD53B9D45))
      = some (.systemAccessTrap .el1 0x18 0x34E4BB)
    ∧ faultOf (step (State.reset.withFetchWord 32 0xD51B451F)) = some .undefined
    ∧ refusalOf (step State.reset) = some .noMoveWaiting := by decide

/-! ### Witnesses: the hypotheses of each statement are met together by a concrete state and operands. A witness with a
suffix is for one clause of its statement. -/

/-- A word as the next move of a state. -/
def supplying (s : State) (w : InstrWord) : State := s.setInputs [.supply w]
/-- Every external access allowed at the three offsets. -/
def withAccess (s : State) : State :=
  { s with extAllowed := [(0x47C, false), (0x47C, true), (0x4F8, false), (0x4F8, true), (0xA7C, false), (0xA7C, true)] }
/-- The guest with its last accessible counter, with the first inaccessible one, with the first unimplemented one. -/
def guestIn : State := withSel guest 3
def guestOut : State := withSel guest 4
def guestNone : State := withSel guest 6
/-- EL1 under EL2 with no counter accessible and SEL 31. -/
def guestFilter : State := withSel (withEL2 (baseAt .el1) 0) 31
/-- EL0 enabled by ER only, and by EN only, with the last implemented counter. -/
def userReads : State := withSel (withEnable (baseAt .el0) false true false) 5
def userWrites : State := withSel (withEnable (baseAt .el0) true false false) 5
/-- EL0 enabled by UEN, the selected counter masked; `userMaskedER` has ER too. -/
def userMasked : State := withP9 (withEnable (baseAt .el0) false false true)
def userMaskedER : State := withP9 (withEnable (baseAt .el0) false true true)
/-- EL3 with MDCR_EL3.TPM set, which tests nothing there. -/
def monitor : State := withTpm3 (baseAt .el3)
/-- EL1 in Debug state with EDSCR.SDD and MDCR_EL3.TPM set. -/
def debugTpm : State := withTpm3 (withSdd (baseAt .el1))
/-- The guest with MDCR_EL2.TPM set, and with the fine-grained traps set but SCR_EL3.FGTEn 0. -/
def guestTpm : State := guest.setCtl { guest.ctl with mdcrEl2 := { tpm := true, hpmn := 4 } }
def guestNoFgten : State := (withFine guest).setCtl { (withFine guest).ctl with scrEl3Fgten := false }
/-- HPMN just above NUM_PMU_COUNTERS under EL2, and the same with EL2 not enabled below it. -/
def overGuest : State := withEL2 (baseAt .el1) 7
def overIdle : State := (baseAt .el1).setCtl { (baseAt .el1).ctl with mdcrEl2 := { tpm := false, hpmn := 7 } }

/-- R43 admits the states the witnesses of statements about the step use. -/
theorem witness_StateAdmitted : StateAdmitted State.reset ∧ StateAdmitted guest ∧ StateAdmitted guestIn
    ∧ StateAdmitted guestFilter ∧ StateAdmitted (withEL2 (baseAt .el1) 6) ∧ StateAdmitted overIdle
    ∧ ¬StateAdmitted overGuest := by decide

theorem witness_WordIsARow_each_row : (0xD53B9D5F : InstrWord) &&& 0xFFFFFFE0 = 0xD53B9D40
    ∧ (0xD51B9D40 : InstrWord) &&& 0xFFFFFFE0 = 0xD51B9D40 ∧ (0xD53B9D3F : InstrWord) &&& 0xFFFFFFE0 = 0xD53B9D20
    ∧ (0xD51B9D20 : InstrWord) &&& 0xFFFFFFE0 = 0xD51B9D20 ∧ (0xD53B451F : InstrWord) &&& 0xFFFFFFE0 = 0xD53B4500
    ∧ (0xD51B4500 : InstrWord) &&& 0xFFFFFFE0 = 0xD51B4500 := by decide
theorem witness_DecodeAndEncodeAgree : (Instr.msrPmxevtyper 31).wellFormed = true
    ∧ decode 0xD51B9D3F = .instr (.msrPmxevtyper 31) := by decide
theorem witness_WordsOfNoRowAreRefusedByName :
    StateAdmitted (supplying guest 0xD53B9D65) ∧ (supplying guest 0xD53B9D65).inputs = .supply 0xD53B9D65 :: []
    ∧ (0xD53B9D65 : InstrWord) &&& 0xFFFFFFE0 ∉
      ([0xD53B9D40, 0xD51B9D40, 0xD53B9D20, 0xD51B9D20, 0xD53B4500, 0xD51B4500] : List InstrWord) := by decide
theorem witness_StepRunsTheDecodedInstruction :
    StateAdmitted (supplying guest 0xD53B9D45) ∧ (supplying guest 0xD53B9D45).inputs = .supply 0xD53B9D45 :: []
    ∧ decode 0xD53B9D45 = .instr (.mrsPmxevcntr 5) ∧ (Instr.mrsPmxevcntr 5).wellFormed = true := by decide
theorem witness_PlacedTableWordRunsNext : StateAdmitted State.reset ∧ decodeTableWord 32 0xD51B9D47 = some (.msrPmxevcntr 7) := by decide
/-- The one hypothesis of the four pseudocode statements: HPMN at its bound, and above it with a value given. -/
theorem witness_IsItsPseudocode :
    (BelowEL2 (withEL2 (baseAt .el1) 6) → pseudoEL2Enabled (withEL2 (baseAt .el1) 6) = true →
      HpmnAdmitted (withEL2 (baseAt .el1) 6))
    ∧ HpmnAdmitted { withEL2 (baseAt .el0) 31 with cfg := { baseConfig with hpmnOutOfRange := some 2 } } := by decide

theorem witness_MrsPmxevcntrCompletes_guest : guestIn.cfg.featPMUv3 = true
    ∧ guestIn.ctl.pmselrSel.toNat < guestIn.cfg.numCounters.val
    ∧ (guestIn.pstate.el = .el0 → El0Enabled (.mrsPmxevcntr 31) guestIn) ∧ EL3LetsThrough guestIn
    ∧ EL2LetsThrough guestIn.ctl.hdfgrtrEl2.pmevcntrn true guestIn :=
  ⟨rfl, by decide, fun h => by contradiction, by decide, by decide⟩
theorem witness_MrsPmxevcntrCompletes_user : userReads.cfg.featPMUv3 = true
    ∧ userReads.ctl.pmselrSel.toNat < userReads.cfg.numCounters.val
    ∧ (userReads.pstate.el = .el0 → El0Enabled (.mrsPmxevcntr 0) userReads) ∧ EL3LetsThrough userReads
    ∧ EL2LetsThrough userReads.ctl.hdfgrtrEl2.pmevcntrn true userReads :=
  ⟨rfl, by decide, fun _ => .inr (.inl rfl), by decide, by decide⟩
theorem witness_MsrPmxevcntrCompletes_guest : guestIn.cfg.featPMUv3 = true
    ∧ guestIn.ctl.pmselrSel.toNat < guestIn.cfg.numCounters.val
    ∧ (guestIn.pstate.el = .el0 → El0Enabled (.msrPmxevcntr 31) guestIn) ∧ EL3LetsThrough guestIn
    ∧ EL2LetsThrough guestIn.ctl.hdfgwtrEl2.pmevcntrn true guestIn :=
  ⟨rfl, by decide, fun h => by contradiction, by decide, by decide⟩
theorem witness_MsrPmxevcntrCompletes_user : userWrites.cfg.featPMUv3 = true
    ∧ userWrites.ctl.pmselrSel.toNat < userWrites.cfg.numCounters.val
    ∧ (userWrites.pstate.el = .el0 → El0Enabled (.msrPmxevcntr 0) userWrites) ∧ EL3LetsThrough userWrites
    ∧ EL2LetsThrough userWrites.ctl.hdfgwtrEl2.pmevcntrn true userWrites :=
  ⟨rfl, by decide, fun _ => .inl rfl, by decide, by decide⟩
theorem witness_MrsPmxevtyperCompletes_filter : guestFilter.cfg.featPMUv3 = true
    ∧ (guestFilter.ctl.pmselrSel = 31 ∨ guestFilter.ctl.pmselrSel.toNat < guestFilter.cfg.numCounters.val)
    ∧ (guestFilter.pstate.el = .el0 → El0Enabled (.mrsPmxevtyper 3) guestFilter) ∧ EL3LetsThrough guestFilter
    ∧ EL2LetsThrough guestFilter.ctl.hdfgrtrEl2.pmevtypern (decide (guestFilter.ctl.pmselrSel ≠ 31)) guestFilter :=
  ⟨rfl, .inl rfl, fun h => by contradiction, by decide, by decide⟩
theorem witness_MrsPmxevtyperCompletes_user : userWrites.cfg.featPMUv3 = true
    ∧ (userWrites.ctl.pmselrSel = 31 ∨ userWrites.ctl.pmselrSel.toNat < userWrites.cfg.numCounters.val)
    ∧ (userWrites.pstate.el = .el0 → El0Enabled (.mrsPmxevtyper 3) userWrites) ∧ EL3LetsThrough userWrites
    ∧ EL2LetsThrough userWrites.ctl.hdfgrtrEl2.pmevtypern (decide (userWrites.ctl.pmselrSel ≠ 31)) userWrites :=
  ⟨rfl, .inr (by decide), fun _ => .inl rfl, by decide, by decide⟩
theorem witness_MsrPmxevtyperCompletes_filter : guestFilter.cfg.featPMUv3 = true
    ∧ (guestFilter.ctl.pmselrSel = 31 ∨ guestFilter.ctl.pmselrSel.toNat < guestFilter.cfg.numCounters.val)
    ∧ (guestFilter.pstate.el = .el0 → El0Enabled (.msrPmxevtyper 4) guestFilter) ∧ EL3LetsThrough guestFilter
    ∧ EL2LetsThrough guestFilter.ctl.hdfgwtrEl2.pmevtypern (decide (guestFilter.ctl.pmselrSel ≠ 31)) guestFilter :=
  ⟨rfl, .inl rfl, fun h => by contradiction, by decide, by decide⟩
theorem witness_MsrPmxevtyperCompletes_monitor : monitor.cfg.featPMUv3 = true
    ∧ (monitor.ctl.pmselrSel = 31 ∨ monitor.ctl.pmselrSel.toNat < monitor.cfg.numCounters.val)
    ∧ (monitor.pstate.el = .el0 → El0Enabled (.msrPmxevtyper 4) monitor) ∧ EL3LetsThrough monitor
    ∧ EL2LetsThrough monitor.ctl.hdfgwtrEl2.pmevtypern (decide (monitor.ctl.pmselrSel ≠ 31)) monitor :=
  ⟨rfl, .inr (by decide), fun h => by contradiction, by decide, by decide⟩
theorem witness_DspsrCompletesExactlyInDebugState : (halted 0).halted = true ∧ (baseAt .el3).halted = false := by decide
theorem witness_AbsentRegistersAreUndefined : isPmuInstr (.msrPmxevtyper 0) = true
    ∧ State.cfg { baseAt .el3 with cfg := { baseConfig with featPMUv3 := false } } = { baseConfig with featPMUv3 := false }
    ∧ isPmuInstr (.mrsDspsr 0) = false ∧ (baseAt .el3).halted = false := by decide

/-- One Undefined outcome for each cause but the CONSTRAINED UNPREDICTABLE one. -/
theorem witness_UndefinedHasOnlyTheListedCauses :
    exec (.mrsPmxevcntr 5) { baseAt .el3 with cfg := { baseConfig with featPMUv3 := false } } = .fault .undefined
    ∧ exec (.mrsPmxevcntr 5) (withSel (baseAt .el3) 6) = .fault .undefined
    ∧ exec (.mrsPmxevcntr 5) debugTpm = .fault .undefined
    ∧ exec (.mrsDspsr 0) (baseAt .el3) = .fault .undefined := ⟨rfl, rfl, rfl, rfl⟩
/-- The CONSTRAINED UNPREDICTABLE cause, whose outcome is a free value: where the choice is Undefined. -/
theorem witness_UndefinedHasOnlyTheListedCauses_unpredictable (h : Config.cuChoice 0 = .undefined) :
    exec (.mrsPmxevcntr 5) (withSel (withoutFGT (baseAt .el3)) 6) = .fault .undefined := by
  show constrainedUnpredictable (Config.cuChoice 0) .top _ _ = _
  rw [h]; rfl
/-- A trap to each level, EL2 by each of its four causes: the one hypothesis of both statements about traps. -/
theorem witness_TrapsHaveOnlyTheListedCauses :
    exec (.mrsPmxevcntr 5) (baseAt .el0) = .fault (.systemAccessTrap .el1 0x18 0x34E4BB)
    ∧ exec (.mrsPmxevcntr 5) ((withEL2 (baseAt .el0) 6).setCtl
        { (withEL2 (baseAt .el0) 6).ctl with hcrEl2 := { tge := true, e2h := false } })
      = .fault (.systemAccessTrap .el2 0x18 0x34E4BB)
    ∧ exec (.mrsPmxevcntr 5) (withFine (withEL2 (baseAt .el1) 6)) = .fault (.systemAccessTrap .el2 0x18 0x34E4BB)
    ∧ exec (.mrsPmxevcntr 5) ((withEL2 (baseAt .el1) 6).setCtl
        { (withEL2 (baseAt .el1) 6).ctl with mdcrEl2 := { tpm := true, hpmn := 6 } })
      = .fault (.systemAccessTrap .el2 0x18 0x34E4BB)
    ∧ exec (.mrsPmxevcntr 5) guestOut = .fault (.systemAccessTrap .el2 0x18 0x34E4BB)
    ∧ exec (.mrsPmxevcntr 5) (withTpm3 (baseAt .el2)) = .fault (.systemAccessTrap .el3 0x18 0x34E4BB) :=
  ⟨rfl, rfl, rfl, rfl, rfl, rfl⟩
theorem witness_DisabledEl0AccessTraps : isPmuInstr (.msrPmxevcntr 7) = true ∧ userReads.cfg.featPMUv3 = true
    ∧ userReads.pstate.el = .el0
    ∧ (SelectsFilter (.msrPmxevcntr 7) userReads ∨ userReads.ctl.pmselrSel.toNat < userReads.cfg.numCounters.val)
    ∧ ¬SddPriority userReads ∧ ¬El0Enabled (.msrPmxevcntr 7) userReads :=
  ⟨rfl, rfl, rfl, .inr (by decide), by decide, by simp only [El0Enabled]; decide⟩
/-- Debug state with SDD, where the outcome is Undefined. -/
theorem witness_MdcrEl3TrapsWhatNothingEarlierStops_undefined : isPmuInstr (.mrsPmxevcntr 5) = true
    ∧ debugTpm.cfg.featPMUv3 = true ∧ debugTpm.pstate.el ≠ .el3
    ∧ (SelectsFilter (.mrsPmxevcntr 5) debugTpm ∨ debugTpm.ctl.pmselrSel.toNat < debugTpm.cfg.numCounters.val)
    ∧ (debugTpm.pstate.el = .el0 → El0Enabled (.mrsPmxevcntr 5) debugTpm)
    ∧ EL2LetsThrough (fineTrapBit (.mrsPmxevcntr 5) debugTpm)
      (!(isTypeInstr (.mrsPmxevcntr 5) && decide (debugTpm.ctl.pmselrSel = 31))) debugTpm
    ∧ debugTpm.cfg.haveEL3 = true ∧ debugTpm.ctl.mdcrEl3Tpm = true ∧ debugTpm.halted = true ∧ debugTpm.ctl.edscrSdd = true :=
  ⟨rfl, rfl, by decide, .inr (by decide), fun h => by contradiction, by decide, rfl, rfl, rfl, rfl⟩
/-- The filter selected at EL1 under EL2, where the outcome is a trap to EL3. -/
theorem witness_MdcrEl3TrapsWhatNothingEarlierStops_trap : isPmuInstr (.msrPmxevtyper 4) = true
    ∧ (withTpm3 guestFilter).cfg.featPMUv3 = true ∧ (withTpm3 guestFilter).pstate.el ≠ .el3
    ∧ (SelectsFilter (.msrPmxevtyper 4) (withTpm3 guestFilter)
      ∨ (withTpm3 guestFilter).ctl.pmselrSel.toNat < (withTpm3 guestFilter).cfg.numCounters.val)
    ∧ ((withTpm3 guestFilter).pstate.el = .el0 → El0Enabled (.msrPmxevtyper 4) (withTpm3 guestFilter))
    ∧ EL2LetsThrough (fineTrapBit (.msrPmxevtyper 4) (withTpm3 guestFilter))
      (!(isTypeInstr (.msrPmxevtyper 4) && decide ((withTpm3 guestFilter).ctl.pmselrSel = 31))) (withTpm3 guestFilter)
    ∧ (withTpm3 guestFilter).cfg.haveEL3 = true ∧ (withTpm3 guestFilter).ctl.mdcrEl3Tpm = true
    ∧ (withTpm3 guestFilter).halted = false :=
  ⟨rfl, rfl, by decide, .inl ⟨rfl, rfl⟩, fun h => by contradiction, by decide, rfl, rfl, rfl⟩
theorem witness_El2ControlsTrapGuestAccesses : isPmuInstr (.mrsPmxevcntr 5) = true
    ∧ (withFine guest).cfg.featPMUv3 = true ∧ BelowEL2 (withFine guest)
    ∧ (SelectsFilter (.mrsPmxevcntr 5) (withFine guest)
      ∨ (withFine guest).ctl.pmselrSel.toNat < (withFine guest).cfg.numCounters.val)
    ∧ ((withFine guest).pstate.el = .el0 → El0Enabled (.mrsPmxevcntr 5) (withFine guest))
    ∧ ¬SddPriority (withFine guest) ∧ pseudoEL2Enabled (withFine guest) = true
    ∧ (¬FineTrapLetsThrough (fineTrapBit (.mrsPmxevcntr 5) (withFine guest)) (withFine guest)
      ∨ (withFine guest).ctl.mdcrEl2.tpm = true) :=
  ⟨rfl, rfl, by decide, .inr (by decide), fun h => by contradiction, by decide, rfl, .inl (by decide)⟩
theorem witness_El2ControlsTrapGuestAccesses_tpm : isPmuInstr (.msrPmxevtyper 4) = true
    ∧ guestTpm.cfg.featPMUv3 = true ∧ BelowEL2 guestTpm
    ∧ (SelectsFilter (.msrPmxevtyper 4) guestTpm ∨ guestTpm.ctl.pmselrSel.toNat < guestTpm.cfg.numCounters.val)
    ∧ (guestTpm.pstate.el = .el0 → El0Enabled (.msrPmxevtyper 4) guestTpm)
    ∧ ¬SddPriority guestTpm ∧ pseudoEL2Enabled guestTpm = true
    ∧ (¬FineTrapLetsThrough (fineTrapBit (.msrPmxevtyper 4) guestTpm) guestTpm ∨ guestTpm.ctl.mdcrEl2.tpm = true) :=
  ⟨rfl, rfl, by decide, .inr (by decide), fun h => by contradiction, by decide, rfl, .inr rfl⟩
theorem witness_FineGrainedTrapsNeedFgten : guestNoFgten.cfg.haveEL3 = true ∧ guestNoFgten.ctl.scrEl3Fgten = false
    ∧ Predictable (.mrsPmxevcntr 5) guestNoFgten := by decide
/-- Where FEAT_FGT is absent, SEL 31 is predictable through PMXEVTYPER_EL0 and not through PMXEVCNTR_EL0. -/
theorem test_predictable_selector31 : Predictable (.msrPmxevtyper 5) (withoutFGT guestFilter)
    ∧ ¬Predictable (.msrPmxevcntr 5) (withoutFGT guestFilter) := by decide
theorem witness_SddActsOnlyInDebugStateOnEl3Traps : guest.halted = false
    ∧ Predictable (.mrsPmxevcntr 5) guest ∧ debugTpm.halted = true
    ∧ exec (.mrsPmxevcntr 5) (debugTpm.setCtl { debugTpm.ctl with edscrSdd := false })
      = .fault (.systemAccessTrap .el3 0x18 0x34E4BB) := ⟨rfl, by decide, rfl, rfl⟩
theorem witness_FgtDefinesInaccessibleCounterAccess_unimplemented : isPmuInstr (.mrsPmxevcntr 5) = true
    ∧ isTypeInstr (.mrsPmxevcntr 5) = false ∧ guestNone.cfg.featPMUv3 = true ∧ guestNone.cfg.featFGT = true
    ∧ guestNone.cfg.numCounters.val ≤ guestNone.ctl.pmselrSel.toNat := by decide
theorem witness_FgtDefinesInaccessibleCounterAccess_inaccessible : isPmuInstr (.mrsPmxevcntr 5) = true
    ∧ isTypeInstr (.mrsPmxevcntr 5) = false ∧ guestOut.cfg.featPMUv3 = true ∧ guestOut.cfg.featFGT = true
    ∧ guestOut.ctl.pmselrSel.toNat < guestOut.cfg.numCounters.val
    ∧ pseudoNumAccessible guestOut ≤ guestOut.ctl.pmselrSel.toNat ∧ ¬HpmnRefused guestOut
    ∧ (guestOut.pstate.el = .el0 → El0Enabled (.mrsPmxevcntr 5) guestOut) ∧ ¬SddPriority guestOut :=
  ⟨rfl, rfl, rfl, rfl, by decide, by decide, by decide, fun h => by contradiction, by decide⟩
/-- The first clause of both statements about CONSTRAINED UNPREDICTABLE accesses. -/
theorem witness_UnpredictableAccessIsPermitted_unimplemented : (withoutFGT guestNone).cfg.featPMUv3 = true
    ∧ (withoutFGT guestNone).cfg.featFGT = false ∧ ¬HpmnRefused (withoutFGT guestNone)
    ∧ (withoutFGT guestNone).ctl.pmselrSel ≠ 31
    ∧ (withoutFGT guestNone).cfg.numCounters.val ≤ (withoutFGT guestNone).ctl.pmselrSel.toNat :=
  ⟨rfl, rfl, by decide, by decide, by decide⟩
/-- The second clause of both, for the four instructions. -/
theorem witness_UnpredictableAccessIsPermitted_inaccessible : (withoutFGT guestOut).cfg.featPMUv3 = true
    ∧ (withoutFGT guestOut).cfg.featFGT = false ∧ ¬HpmnRefused (withoutFGT guestOut)
    ∧ (withoutFGT guestOut).ctl.pmselrSel ≠ 31
    ∧ (withoutFGT guestOut).ctl.pmselrSel.toNat < (withoutFGT guestOut).cfg.numCounters.val
    ∧ pseudoNumAccessible (withoutFGT guestOut) ≤ (withoutFGT guestOut).ctl.pmselrSel.toNat
    ∧ ¬SddPriority (withoutFGT guestOut) ∧ (withoutFGT guestOut).ctl.mdcrEl2.tpm = false
    ∧ ∀ i : Instr, (withoutFGT guestOut).pstate.el = .el0 → El0Enabled i (withoutFGT guestOut) :=
  ⟨rfl, rfl, by decide, by decide, by decide, by decide, by decide, rfl, fun _ h => by contradiction⟩
theorem witness_EveryPermittedBehaviourIsAChoice : (withoutFGT guest).numAccessible = some 4 ∧ 3 < 4 := by decide
theorem witness_OnlyOutOfRangeHpmnRefusesAnInstruction :
    exec (.mrsPmxevcntr 5) overGuest = .refused .hpmnOutOfRange := rfl
/-- A refused state; a completing step; an exit to EL2 (M[3:0] 0b1001) and a reset that would leave a refused state. -/
theorem witness_RefusedHpmnStatesNeitherStepNorArise : ¬StateAdmitted overGuest
    ∧ (∃ t, step (supplying guest 0xD51B9D47) = .next t)
    ∧ (StateAdmitted ((overIdle.setHalted true).setDspsr 0x3C9) ∧ ¬HpmnAdmitted overIdle
      ∧ overIdle.cfg.aarch64Supported = true ∧ (0x3C9 : Word).getLsbD 4 = false
      ∧ ReturnableMode overIdle.cfg ((0x3C9 : Word).extractLsb' 0 4) ∧ (0x3C9 : Word).extractLsb' 2 2 = 0b10)
    ∧ (StateAdmitted guest ∧ ¬StateAdmitted (guest.setArch overGuest.toArch)
      ∧ (guest.setInputs [.warmReset overGuest.toArch]).inputs = .warmReset overGuest.toArch :: []) :=
  ⟨by decide, ⟨_, rfl⟩, by decide, by decide, by decide, rfl⟩
theorem witness_MaskedCounterReadsZeroAndIgnoresWrites : userMaskedER.cfg.featPMUv3 = true ∧ UenActs userMaskedER
    ∧ userMaskedER.pstate.el = .el0 ∧ userMaskedER.ctl.pmselrSel.toNat < userMaskedER.cfg.numCounters.val
    ∧ EL3LetsThrough userMaskedER ∧ EL2LetsThrough userMaskedER.ctl.hdfgrtrEl2.pmevcntrn true userMaskedER
    ∧ EL2LetsThrough userMaskedER.ctl.hdfgwtrEl2.pmevcntrn true userMaskedER
    ∧ userMaskedER.ctl.pmuacr.p.getLsbD userMaskedER.ctl.pmselrSel.toNat = false ∧ userMaskedER.ctl.pmuserenr.er = true :=
  ⟨rfl, by decide, rfl, by decide, by decide, by decide, by decide, by decide, rfl⟩
theorem witness_MaskedCounterLeaksNothingToEl0 : userMasked.cfg.featFGT = true ∧ UenActs userMasked
    ∧ userMasked.pstate.el = .el0 ∧ userMasked.ctl.pmuacr.p.getLsbD userMasked.ctl.pmselrSel.toNat = false := by decide
theorem witness_Selector31ReachesTheFilterNotACounter : guestFilter.cfg.featPMUv3 = true ∧ guestFilter.cfg.featFGT = true
    ∧ guestFilter.ctl.pmselrSel = 31 ∧ guestFilter.pstate.el ≠ .el0 ∧ EL3LetsThrough guestFilter
    ∧ EL2LetsThrough guestFilter.ctl.hdfgrtrEl2.pmevtypern false guestFilter
    ∧ EL2LetsThrough guestFilter.ctl.hdfgwtrEl2.pmevtypern false guestFilter :=
  ⟨rfl, rfl, rfl, by decide, by decide, by decide, by decide⟩
theorem witness_NarrowCountersKeepTheirUpperHalfZero : (withoutP5 guestIn).cfg.featPMUv3p5 = false
    ∧ ¬CuArises (withoutP5 guestIn) ∧ (∃ t, exec (.mrsPmxevcntr 30) (withoutP5 guestIn) = .next t)
    ∧ ∃ t, exec (.msrPmxevcntr 7) (withoutP5 guestIn) = .next t := ⟨rfl, by decide, ⟨_, rfl⟩, ⟨_, rfl⟩⟩
/-- The same without FEAT_FGT. -/
theorem witness_NarrowCountersKeepTheirUpperHalfZero_withoutFGT :
    (withoutFGT (withoutP5 guestIn)).cfg.featPMUv3p5 = false ∧ ¬CuArises (withoutFGT (withoutP5 guestIn))
    ∧ (∃ t, exec (.mrsPmxevcntr 30) (withoutFGT (withoutP5 guestIn)) = .next t)
    ∧ ∃ t, exec (.msrPmxevcntr 7) (withoutFGT (withoutP5 guestIn)) = .next t := ⟨rfl, by decide, ⟨_, rfl⟩, ⟨_, rfl⟩⟩
/-- The two words of program P1, and of steps 1 and 2 of program P3. -/
def counterPair : State := guestIn.setInputs [.supply 0xD51B9D47, .supply 0xD53B9D45]
def typePair : State := guestFilter.setInputs [.supply 0xD51B9D24, .supply 0xD53B9D23]
theorem witness_CounterReadsBackWhatWasWritten :
    StateAdmitted counterPair ∧ counterPair.inputs = .supply 0xD51B9D47 :: .supply 0xD53B9D45 :: []
    ∧ decode 0xD51B9D47 = .instr (.msrPmxevcntr 7) ∧ decode 0xD53B9D45 = .instr (.mrsPmxevcntr 5) ∧ 5 < 31
    ∧ counterPair.cfg.featPMUv3 = true ∧ counterPair.ctl.pmselrSel.toNat < counterPair.cfg.numCounters.val
    ∧ (counterPair.pstate.el = .el0 → counterPair.ctl.pmuserenr.en = true ∧ ¬UenActs counterPair)
    ∧ EL3LetsThrough counterPair ∧ EL2LetsThrough counterPair.ctl.hdfgwtrEl2.pmevcntrn true counterPair
    ∧ EL2LetsThrough counterPair.ctl.hdfgrtrEl2.pmevcntrn true counterPair :=
  ⟨by decide, rfl, by decide, by decide, by decide, rfl, by decide, by decide, by decide, by decide, by decide⟩
theorem witness_TypeReadsBackWhatWasWritten :
    StateAdmitted typePair ∧ typePair.inputs = .supply 0xD51B9D24 :: .supply 0xD53B9D23 :: []
    ∧ decode 0xD51B9D24 = .instr (.msrPmxevtyper 4) ∧ decode 0xD53B9D23 = .instr (.mrsPmxevtyper 3) ∧ 3 < 31
    ∧ typePair.cfg.featPMUv3 = true
    ∧ (typePair.ctl.pmselrSel = 31 ∨ typePair.ctl.pmselrSel.toNat < typePair.cfg.numCounters.val)
    ∧ (typePair.pstate.el = .el0 → typePair.ctl.pmuserenr.en = true ∧ ¬UenActs typePair) ∧ EL3LetsThrough typePair
    ∧ EL2LetsThrough typePair.ctl.hdfgwtrEl2.pmevtypern (decide (typePair.ctl.pmselrSel ≠ 31)) typePair
    ∧ EL2LetsThrough typePair.ctl.hdfgrtrEl2.pmevtypern (decide (typePair.ctl.pmselrSel ≠ 31)) typePair :=
  ⟨by decide, rfl, by decide, by decide, by decide, rfl, .inl rfl, by decide, by decide, by decide, by decide⟩
/-- A completing step of every instruction: the hypothesis of the four frames and of the pc statement. -/
theorem witness_frames_each_instruction_completes : (∃ t, exec (.mrsPmxevcntr 31) guest = .next t)
    ∧ (∃ t, exec (.msrPmxevcntr 0) guest = .next t) ∧ (∃ t, exec (.mrsPmxevtyper 3) guest = .next t)
    ∧ (∃ t, exec (.msrPmxevtyper 4) guestIn = .next t) ∧ (∃ t, exec (.msrPmxevtyper 4) guestFilter = .next t)
    ∧ (∃ t, exec (.mrsDspsr 31) (halted 0) = .next t) ∧ ∃ t, exec (.msrDspsr 7) (halted 0) = .next t :=
  ⟨⟨_, rfl⟩, ⟨_, rfl⟩, ⟨_, rfl⟩, ⟨_, rfl⟩, ⟨_, rfl⟩, ⟨_, rfl⟩, ⟨_, rfl⟩⟩
/-- The clauses of the two write frames for CuArises: where the free choice is behaviour 4, the writes complete. -/
theorem witness_write_frames_unpredictable (h : Config.cuChoice 0 = .unknownSel 3) : CuArises (withoutFGT guestOut)
    ∧ (∃ t, exec (.msrPmxevcntr 7) (withoutFGT guestOut) = .next t)
    ∧ ∃ t, exec (.msrPmxevtyper 7) (withoutFGT guestOut) = .next t := by
  refine ⟨by decide, ?_, ?_⟩
  · show ∃ t, constrainedUnpredictable (Config.cuChoice 0) .guest _ _ = _
    rw [h]; exact ⟨_, rfl⟩
  · show ∃ t, constrainedUnpredictable (Config.cuChoice 0) .guest _ _ = _
    rw [h]; exact ⟨_, rfl⟩
/-- The largest pc whose sum with 4 fits in 64 bits. -/
theorem witness_CompletionAdvancesThePcByFour :
    ((guest.setPc 0xFFFFFFFFFFFFFFFB).pc.toNat + 4 < 2 ^ 64) ∧ guest.halted = false
    ∧ ∃ t, exec (.mrsPmxevcntr 5) (guest.setPc 0xFFFFFFFFFFFFFFFB) = .next t := ⟨by decide, rfl, ⟨_, rfl⟩⟩
theorem witness_EnteringDebugStateSavesPstate : StateAdmitted guest
    ∧ (guest.setInputs [.enterDebug]).inputs = .enterDebug :: []
    ∧ guest.halted = false ∧ guest.pstate.nRW = false ∧ guest.cfg.aarch64Supported = true := by decide
theorem witness_LeavingDebugStateRestoresPstate : StateAdmitted (halted 0x3CD)
    ∧ ((halted 0x3CD).setInputs [.exitDebug]).inputs = .exitDebug :: []
    ∧ (halted 0x3CD).halted = true ∧ (halted 0x3CD).cfg.aarch64Supported = true
    ∧ (halted 0x3CD).dspsr.getLsbD 4 = false
    ∧ ReturnableMode (halted 0x3CD).cfg ((halted 0x3CD).dspsr.extractLsb' 0 4)
    ∧ (halted 0x3CD).dspsr.extractLsb' 2 2 ≠ 0b10 := by decide
/-- An exit to EL2 with HPMN at its bound. -/
theorem witness_LeavingDebugStateRestoresPstate_to_EL2 : StateAdmitted (halted 0x3C9)
    ∧ ReturnableMode (halted 0x3C9).cfg ((halted 0x3C9).dspsr.extractLsb' 0 4)
    ∧ (halted 0x3C9).dspsr.extractLsb' 2 2 = 0b10 ∧ HpmnAdmitted (halted 0x3C9) := by decide
theorem witness_EntryThenExitRestoresPstate : State.Legal (guest.setInputs [.enterDebug, .exitDebug])
    ∧ (guest.setInputs [.enterDebug, .exitDebug]).inputs = .enterDebug :: .exitDebug :: []
    ∧ guest.halted = false ∧ guest.cfg.aarch64Supported = true := ⟨by decide, rfl, rfl, rfl⟩
/-- A configuration without one of the Execution states. -/
def withoutA64 (s : State) : State := { s with cfg := { s.cfg with aarch64Supported := false } }
def withoutA32 (s : State) : State := { s with cfg := { s.cfg with aarch32Supported := false } }
/-- The three entries: while halted, from AArch32 state, without AArch64. -/
theorem witness_IllegalAndAArch32ExitsAreRefused_entries :
    ((halted 2).setInputs [.enterDebug]).inputs = .enterDebug :: []
    ∧ (StateAdmitted (halted 2) ∧ (halted 2).halted = true)
    ∧ (StateAdmitted (guest.setPstate { guest.pstate with nRW := true }) ∧ guest.halted = false)
    ∧ (StateAdmitted (withoutA64 guest) ∧ (withoutA64 guest).halted = false ∧ (withoutA64 guest).pstate.nRW = false
      ∧ (withoutA64 guest).cfg.aarch64Supported = false) := by decide
/-- The exits: while not halted; AArch64 not supported, a reserved mode, and EL2h where EL2 is absent; AArch32 not
supported, a reserved AArch32 mode, a listed one. -/
theorem witness_IllegalAndAArch32ExitsAreRefused :
    ((halted 2).setInputs [.exitDebug]).inputs = .exitDebug :: [] ∧ guest.halted = false
    ∧ ((withoutA64 (halted 2)).halted = true ∧ (withoutA64 (halted 2)).cfg.aarch64Supported = false)
    ∧ (StateAdmitted (halted 2) ∧ (halted 2).dspsr.getLsbD 4 = false ∧ (halted 2).cfg.aarch64Supported = true
      ∧ ¬ReturnableMode (halted 2).cfg ((halted 2).dspsr.extractLsb' 0 4))
    ∧ ¬ReturnableMode { baseConfig with haveEL2 := false } ((halted 0x3C9).dspsr.extractLsb' 0 4)
    ∧ ((withoutA32 (halted 0x1F)).dspsr.getLsbD 4 = true ∧ (withoutA32 (halted 0x1F)).cfg.aarch32Supported = false) := by
  decide
theorem witness_IllegalAndAArch32ExitsAreRefused_aarch32 :
    (StateAdmitted (halted 0x14) ∧ (halted 0x14).dspsr.getLsbD 4 = true ∧ (halted 0x14).cfg.aarch32Supported = true
      ∧ (halted 0x14).dspsr.extractLsb' 0 4 = 0b0100)
    ∧ (StateAdmitted (halted 0x1F) ∧ (halted 0x1F).dspsr.getLsbD 4 = true ∧ (halted 0x1F).cfg.aarch32Supported = true
      ∧ (halted 0x1F).dspsr.extractLsb' 0 4 = 0b1111) := by decide
theorem witness_Res0MaskKeepsExactlyTheLayoutsBits : (0x200 : Word).getLsbD 4 = false ∧ (0x210 : Word).getLsbD 4 = true
    ∧ baseConfig.bigEndian = true := by decide
theorem witness_FilterReadingsDifferExactlyInSixCases : FilterReadingsDiffer 0x58000000 .el0 .nonSecure
    ∧ FilterReadingsDiffer 0x48200000 .el0 .realm ∧ FilterReadingsDiffer 0xA8000000 .el1 .nonSecure
    ∧ FilterReadingsDiffer 0x80400000 .el1 .realm ∧ FilterReadingsDiffer 0x01000000 .el2 .secure
    ∧ FilterReadingsDiffer 0x00100000 .el2 .realm :=
  ⟨.inl (by decide), .inr (.inl (by decide)), .inr (.inr (.inl (by decide))), .inr (.inr (.inr (.inl (by decide)))),
    .inr (.inr (.inr (.inr (.inl (by decide))))), .inr (.inr (.inr (.inr (.inr (by decide)))))⟩
theorem witness_FilteredCycleCounterDoesNotChange : StateAdmitted (guest.setInputs [.pmuCycle 7])
    ∧ (guest.setInputs [.pmuCycle 7]).inputs = .pmuCycle 7 :: [] := by decide
/-- Counter 5, the last implemented, running and frozen; counter 6, the first that is not. -/
theorem witness_PmuChangesOneImplementedCounter : StateAdmitted guest
    ∧ (guest.setInputs [.pmuCount 5 1]).inputs = .pmuCount 5 1 :: []
    ∧ 5 < guest.cfg.numCounters.val ∧ guest.cfg.countersFrozen = false ∧ guest.cfg.numCounters.val ≤ 6
    ∧ Config.countersFrozen { baseConfig with countersFrozen := true } = true := by decide
/-- The hypotheses of every row of both external statements but the move itself. -/
theorem witness_ExternalAccessReachesItsRow : State.Legal (withAccess guest) ∧ StateAdmitted (withAccess guest) ∧ (withAccess guest).cfg.featPMUv3EXT = true
    ∧ (withAccess guest).cfg.featPMUv3EXT32 = true ∧ (withAccess guest).cfg.featPMUv3EXT64 = true
    ∧ (withAccess guest).cfg.featPMUv3TH = true
    ∧ (0x47C, false) ∈ (withAccess guest).extAllowed ∧ (0x4F8, false) ∈ (withAccess guest).extAllowed
    ∧ (0xA7C, false) ∈ (withAccess guest).extAllowed ∧ (0x47C, true) ∈ (withAccess guest).extAllowed
    ∧ (0x4F8, true) ∈ (withAccess guest).extAllowed ∧ (0xA7C, true) ∈ (withAccess guest).extAllowed :=
  ⟨by decide, by decide, rfl, rfl, rfl, rfl, by decide, by decide, by decide, by decide, by decide, by decide⟩
/-- The moves of the rows: PMU_BASE is 0 in the base configuration. -/
theorem witness_ExternalAccessReachesItsRow_moves :
    (guest.setInputs [.extRead 0x47C 32]).inputs = .extRead (guest.cfg.pmuBase + 0x47C) 32 :: []
    ∧ (guest.setInputs [.extRead 0x4F8 64]).inputs = .extRead (guest.cfg.pmuBase + 0x4F8) 64 :: []
    ∧ (guest.setInputs [.extRead 0xA7C 32]).inputs = .extRead (guest.cfg.pmuBase + 0xA7C) 32 :: []
    ∧ (guest.setInputs [.extWrite 0x47C 32 1]).inputs = .extWrite (guest.cfg.pmuBase + 0x47C) 32 1 :: []
    ∧ (guest.setInputs [.extWrite 0x4F8 64 1]).inputs = .extWrite (guest.cfg.pmuBase + 0x4F8) 64 1 :: []
    ∧ (guest.setInputs [.extWrite 0xA7C 32 1]).inputs = .extWrite (guest.cfg.pmuBase + 0xA7C) 32 1 :: [] := by decide
/-- A machine whose PMU block starts at 0x1000, with some feature absent. -/
def blockAt (f : Config → Config) : State := { guest with cfg := f { baseConfig with pmuBase := 0x1000 } }
/-- No rows: 0x47D in 32 bits, 0x47C in 64 bits, and an address below PMU_BASE. -/
theorem witness_ExternalAccessOutsideItsRowsIsRefused : StateAdmitted (blockAt id)
    ∧ ¬IsExtRow (blockAt id).cfg 0x147D 32 ∧ ¬IsExtRow (blockAt id).cfg 0x147C 64 ∧ ¬IsExtRow (blockAt id).cfg 0x47C 32
    ∧ ((blockAt id).setInputs [.extRead 0x47C 32]).inputs = .extRead 0x47C 32 :: []
    ∧ ((blockAt id).setInputs [.extWrite 0x47C 32 1]).inputs = .extWrite 0x47C 32 1 :: [] := by decide
/-- A row without FEAT_PMUv3_EXT; each row absent; a present row with no access allowed. -/
theorem witness_ExternalAccessOutsideItsRowsIsRefused_rows :
    (IsExtRow (blockAt (fun c => { c with featPMUv3EXT := false })).cfg 0x14F8 64
      ∧ (blockAt (fun c => { c with featPMUv3EXT := false })).cfg.featPMUv3EXT = false)
    ∧ ((blockAt (fun c => { c with featPMUv3EXT32 := false })).cfg.featPMUv3EXT = true
      ∧ (blockAt (fun c => { c with featPMUv3EXT32 := false })).cfg.featPMUv3EXT32 = false
      ∧ ¬HighHalfPresent (blockAt (fun c => { c with featPMUv3EXT32 := false })).cfg)
    ∧ ((blockAt (fun c => { c with featPMUv3EXT64 := false })).cfg.featPMUv3EXT = true
      ∧ (blockAt (fun c => { c with featPMUv3EXT64 := false })).cfg.featPMUv3EXT64 = false)
    ∧ (IsExtRow (blockAt id).cfg 0x1A7C 32 ∧ ExtRowPresent (blockAt id).cfg 0x1A7C
      ∧ (0x1A7C - 0x1000, false) ∉ (blockAt id).extAllowed ∧ (0x1A7C - 0x1000, true) ∉ (blockAt id).extAllowed) := by
  decide
/-- Controls that R43 admits at EL1, and controls that it refuses there. -/
theorem witness_ControlsMoveReplacesTheControlsOnly :
    (StateAdmitted (guest.setInputs [.setControls guestTpm.ctl])
      ∧ (guest.setInputs [.setControls guestTpm.ctl]).inputs = .setControls guestTpm.ctl :: []
      ∧ StateAdmitted ((guest.setInputs [.setControls guestTpm.ctl]).setCtl guestTpm.ctl))
    ∧ (StateAdmitted (guest.setInputs [.setControls overGuest.ctl])
      ∧ ¬StateAdmitted ((guest.setInputs [.setControls overGuest.ctl]).setCtl overGuest.ctl)) := by decide

def windowThenExternal : State :=
  (withAccess (withSel (baseAt .el2) 31)).setInputs [.supply 0xD51B9D24, .extRead 0x4F8 64]
theorem witness_WindowWriteIsSeenExternally :
    StateAdmitted windowThenExternal ∧ windowThenExternal.inputs = .supply 0xD51B9D24 :: .extRead (windowThenExternal.cfg.pmuBase + 0x4F8) 64 :: []
    ∧ decode 0xD51B9D24 = .instr (.msrPmxevtyper 4) ∧ windowThenExternal.cfg.featPMUv3 = true
    ∧ windowThenExternal.ctl.pmselrSel = 31 ∧ windowThenExternal.pstate.el ≠ .el0 ∧ EL3LetsThrough windowThenExternal
    ∧ EL2LetsThrough windowThenExternal.ctl.hdfgwtrEl2.pmevtypern false windowThenExternal
    ∧ windowThenExternal.cfg.featPMUv3EXT = true ∧ windowThenExternal.cfg.featPMUv3EXT64 = true
    ∧ (0x4F8, false) ∈ windowThenExternal.extAllowed :=
  ⟨by decide, rfl, by decide, rfl, rfl, by decide, by decide, by decide, rfl, rfl, by decide⟩
theorem witness_EveryStepKeepsTheStateLegal : State.Legal (supplying guest 0xD51B9D47)
    ∧ ∃ t, step (supplying guest 0xD51B9D47) = .next t := ⟨by decide, ⟨_, rfl⟩⟩
theorem witness_RunsKeepLegalityAndConfiguration : State.Legal (supplying guest 0xD51B9D47)
    ∧ ∃ t, Reaches (supplying guest 0xD51B9D47) t ∧ t.pc = 4 :=
  ⟨by decide, _, .step (.refl _) rfl, rfl⟩
/-- A Warm reset to EL3 from EL1 changes PSTATE. -/
theorem witness_OnlyDebugExitAndResetsChangePstate :
    ∃ t, step (guest.setInputs [.warmReset (baseAt .el3).toArch]) = .next t ∧ t.pstate ≠ guest.pstate :=
  ⟨_, rfl, by decide⟩
theorem witness_ResetsTreatPmccfiltrAsStated : StateAdmitted guest ∧ Arch.Legal guest.cfg (baseAt .el3).toArch
    ∧ (guest.setInputs [.warmReset (baseAt .el3).toArch]).inputs = .warmReset (baseAt .el3).toArch :: []
    ∧ (guest.setInputs [.coldReset (baseAt .el3).toArch]).inputs = .coldReset (baseAt .el3).toArch :: []
    ∧ (guest.setInputs [.externalDebugReset (baseAt .el3).toArch]).inputs
      = .externalDebugReset (baseAt .el3).toArch :: [] := ⟨by decide, by decide, rfl, rfl, rfl⟩

end Sys2Proof.Tests
end

section
/-! SUPPORT. A change of the controls that an instruction does not consult: what it commutes with. -/

namespace Sys2Proof.Machine

/-- The state with its named-only controls changed by `g`, and nothing else. -/
def State.mapCtl (g : Controls → Controls) (s : State) : State := s.setCtl (g s.ctl)

section MapCtl

variable (g : Controls → Controls) (s : State)

@[simp] theorem State.mapCtl_ctl : (s.mapCtl g).ctl = g s.ctl := rfl
@[simp] theorem State.mapCtl_cfg : (s.mapCtl g).cfg = s.cfg := rfl
@[simp] theorem State.mapCtl_pstate : (s.mapCtl g).pstate = s.pstate := rfl
@[simp] theorem State.mapCtl_halted : (s.mapCtl g).halted = s.halted := rfl
@[simp] theorem State.mapCtl_draws : (s.mapCtl g).draws = s.draws := rfl
@[simp] theorem State.mapCtl_dspsr : (s.mapCtl g).dspsr = s.dspsr := rfl
@[simp] theorem State.readX_mapCtl (t : Nat) : (s.mapCtl g).readX t = s.readX t := rfl
@[simp] theorem State.readCounter_mapCtl (k : Nat) : (s.mapCtl g).readCounter k = s.readCounter k := rfl
@[simp] theorem State.readType_mapCtl (k : Nat) : (s.mapCtl g).readType k = s.readType k := rfl

@[simp] theorem State.bumpDraws_mapCtl : (s.mapCtl g).bumpDraws = s.bumpDraws.mapCtl g := rfl
@[simp] theorem State.setDspsr_mapCtl (v : Word) : (s.mapCtl g).setDspsr v = (s.setDspsr v).mapCtl g := rfl
@[simp] theorem State.writeCounter_mapCtl (k : Nat) (v : Word) :
    (s.mapCtl g).writeCounter k v = (s.writeCounter k v).mapCtl g := rfl

@[simp] theorem State.setX_mapCtl (t : Nat) (v : Word) : (s.mapCtl g).setX t v = (s.setX t v).mapCtl g := by
  unfold State.setX; split <;> rfl

@[simp] theorem State.writeType_mapCtl (k : Nat) (v : Word) :
    (s.mapCtl g).writeType k v = (s.writeType k v).mapCtl g := by
  unfold State.writeType; split <;> rfl

@[simp] theorem State.advance_mapCtl : (s.mapCtl g).advance = s.advance.mapCtl g := by
  unfold State.advance; rw [State.mapCtl_halted]; split <;> rfl

end MapCtl

/-- `g` keeps the controls behind PMSELR_EL0.SEL and the number of accessible counters (R28, R43). -/
structure KeepsSelection (g : Controls → Controls) : Prop where
  sel : ∀ c, (g c).pmselrSel = c.pmselrSel
  mdcrEl2 : ∀ c, (g c).mdcrEl2 = c.mdcrEl2
  el2On : ∀ c, (g c).el2On = c.el2On

theorem KeepsSelection.sel_eq {g : Controls → Controls} (hg : KeepsSelection g) (s : State) :
    (s.mapCtl g).sel = s.sel := by
  simp [State.sel, hg.sel]

theorem KeepsSelection.numAccessible_eq {g : Controls → Controls} (hg : KeepsSelection g) (s : State) :
    (s.mapCtl g).numAccessible = s.numAccessible := by
  have h2 : (s.mapCtl g).el2Enabled = s.el2Enabled := by
    simp [State.el2Enabled, Arch.el2Enabled, hg.el2On]
  simp [State.numAccessible, h2, hg.mdcrEl2]

/-- The query and the effect a PMU instruction hands to the shared check chain (R110, R111, R150, R151). -/
inductive PmuAccess : Instr → (State → PmuQuery) → PmuEffect → Prop where
  | counterRead (t : Nat) : PmuAccess (.mrsPmxevcntr t) pmxevcntrReadQuery (pmxevcntrReadEffect t)
  | counterWrite (t : Nat) : PmuAccess (.msrPmxevcntr t) pmxevcntrWriteQuery (pmxevcntrWriteEffect t)
  | typeRead (t : Nat) : PmuAccess (.mrsPmxevtyper t) pmxevtyperReadQuery (pmxevtyperReadEffect t)
  | typeWrite (t : Nat) : PmuAccess (.msrPmxevtyper t) pmxevtyperWriteQuery (pmxevtyperWriteEffect t)

section PmuAccess

variable {i : Instr} {q : State → PmuQuery} {e : PmuEffect} {g : Controls → Controls}

/-- The four PMU instructions are one meaning at four queries and effects. -/
theorem PmuAccess.exec_eq (h : PmuAccess i q e) (s : State) :
    exec i s = finishPmuAccess e (checkPmuAccess (q s) s) s := by
  cases h <;> rfl

/-- Every instruction is a PMU access or one of DSPSR_EL0 (R93). -/
theorem pmuAccess_or_dspsr (i : Instr) :
    (∃ q e, PmuAccess i q e) ∨ (∃ t, i = .mrsDspsr t) ∨ ∃ t, i = .msrDspsr t := by
  cases i with
  | mrsPmxevcntr t => exact .inl ⟨_, _, .counterRead t⟩
  | msrPmxevcntr t => exact .inl ⟨_, _, .counterWrite t⟩
  | mrsPmxevtyper t => exact .inl ⟨_, _, .typeRead t⟩
  | msrPmxevtyper t => exact .inl ⟨_, _, .typeWrite t⟩
  | mrsDspsr t => exact .inr (.inl ⟨t, rfl⟩)
  | msrDspsr t => exact .inr (.inr ⟨t, rfl⟩)

/-- Read-as-zero and write-ignored neither consult nor change the controls. -/
theorem PmuAccess.ignored_mapCtl (h : PmuAccess i q e) (s : State) :
    e.ignored (s.mapCtl g) = (e.ignored s).mapCtl g := by
  cases h with
  | counterRead t => exact s.setX_mapCtl g t 0
  | counterWrite t => rfl
  | typeRead t => exact s.setX_mapCtl g t 0
  | typeWrite t => rfl

/-- The access itself, with `k` in place of SEL, neither consults nor changes the controls. -/
theorem PmuAccess.perform_mapCtl (h : PmuAccess i q e) (k : Nat) (s : State) :
    e.perform k (s.mapCtl g) = (e.perform k s).mapCtl g := by
  cases h with
  | counterRead t => simp [pmxevcntrReadEffect]
  | counterWrite t => simp [pmxevcntrWriteEffect]
  | typeRead t => simp [pmxevtyperReadEffect]
  | typeWrite t => simp [pmxevtyperWriteEffect]

/-- Under the same choice a CONSTRAINED UNPREDICTABLE access does not see a change of the other controls. -/
theorem PmuAccess.constrainedUnpredictable_mapCtl (h : PmuAccess i q e) (hg : KeepsSelection g) (c : CuChoice)
    (w : CuWhere) (s : State) :
    constrainedUnpredictable c w e (s.mapCtl g) = mapNext (State.mapCtl g) (constrainedUnpredictable c w e s) := by
  cases c with
  | undefined => rfl
  | razWi => simp [constrainedUnpredictable, mapNext, h.ignored_mapCtl]
  | nop => simp [constrainedUnpredictable, mapNext]
  | unknownSel k =>
    simp only [constrainedUnpredictable, hg.numAccessible_eq]
    match s.numAccessible with
    | none => rfl
    | some 0 => rfl
    | some (n + 1) => simp [mapNext, h.perform_mapCtl]
  | trapEL2 => cases w <;> rfl

/-- Under the same verdict the outcome does not see a change of the other controls. -/
theorem PmuAccess.finish_mapCtl (h : PmuAccess i q e) (hg : KeepsSelection g) (v : Verdict) (s : State) :
    finishPmuAccess e v (s.mapCtl g) = mapNext (State.mapCtl g) (finishPmuAccess e v s) := by
  cases v with
  | undefined => rfl
  | trap target => rfl
  | unpredictable w => exact h.constrainedUnpredictable_mapCtl hg (Config.cuChoice s.draws) w s
  | hpmnRefused => rfl
  | ignored => simp [finishPmuAccess, mapNext, h.ignored_mapCtl]
  | perform => simp [finishPmuAccess, mapNext, h.perform_mapCtl, hg.sel_eq]

/-- No CONSTRAINED UNPREDICTABLE behaviour traps to EL3: behaviour 5 traps to EL2 (R114). -/
theorem constrainedUnpredictable_ne_trapEL3 (c : CuChoice) (w : CuWhere) (s : State) (code : Nat) (iss : BitVec 25) :
    constrainedUnpredictable c w e s ≠ .fault (.systemAccessTrap .el3 code iss) := by
  cases c with
  | undefined | razWi | nop => exact fun h => by cases h
  | unknownSel k =>
    simp only [constrainedUnpredictable]
    match s.numAccessible with
    | none => simp
    | some 0 => simp [raiseUndefined]
    | some (n + 1) => simp
  | trapEL2 => cases w <;> simp [constrainedUnpredictable, raiseUndefined, raiseSystemAccessTrap]

/-- Only the verdict of that trap traps to EL3. -/
theorem verdict_of_finishPmuAccess_trapEL3 {v : Verdict} {s : State} {code : Nat} {iss : BitVec 25}
    (h : finishPmuAccess e v s = .fault (.systemAccessTrap .el3 code iss)) : v = .trap .el3 := by
  cases v with
  | undefined => cases h
  | trap target => cases h; rfl
  | unpredictable w => exact absurd h (constrainedUnpredictable_ne_trapEL3 _ w s code iss)
  | hpmnRefused => cases h
  | ignored => cases h
  | perform => cases h

end PmuAccess

/-- A change of the controls that moves neither the selection nor any verdict is seen by no instruction. -/
theorem exec_mapCtl {g : Controls → Controls} (hg : KeepsSelection g) (i : Instr) (s : State)
    (hv : ∀ q e, PmuAccess i q e → checkPmuAccess (q (s.mapCtl g)) (s.mapCtl g) = checkPmuAccess (q s) s) :
    exec i (s.mapCtl g) = mapNext (State.mapCtl g) (exec i s) := by
  obtain ⟨q, e, h⟩ | ⟨t, rfl⟩ | ⟨t, rfl⟩ := pmuAccess_or_dspsr i
  · rw [h.exec_eq, h.exec_eq, hv q e h, h.finish_mapCtl hg]
  · simp only [exec, execMrsDspsr, State.mapCtl_halted, State.mapCtl_dspsr, State.setX_mapCtl, State.advance_mapCtl]
    split <;> rfl
  · simp only [exec, execMsrDspsr, State.mapCtl_halted, State.mapCtl_cfg, State.readX_mapCtl, State.setDspsr_mapCtl,
      State.advance_mapCtl]
    split <;> rfl

end Sys2Proof.Machine
end

section
/-! The fine-grained traps and SCR_EL3.FGTEn (10_state.md R39). -/

namespace Sys2Proof.Machine

/-- Both fine-grained trap registers replaced. -/
def Controls.setFineTraps (r w : FineTraps) (c : Controls) : Controls :=
  { c with hdfgrtrEl2 := r, hdfgwtrEl2 := w }

theorem keepsSelection_setFineTraps (r w : FineTraps) : KeepsSelection (Controls.setFineTraps r w) :=
  ⟨fun _ => rfl, fun _ => rfl, fun _ => rfl⟩

/-- FGTEn 0 in EL3 turns the fine-grained traps off (R39, R112). -/
theorem State.fgtActive_of_fgten_zero {s : State} (h3 : s.cfg.haveEL3 = true) (hf : s.ctl.scrEl3Fgten = false) :
    s.fgtActive = false := by
  simp [State.fgtActive, h3, hf]

/-- Where the fine-grained traps are off, arm D does not consult its bit. -/
theorem checkPmuAccess_fineTrap {s : State} (h : s.fgtActive = false) (q : PmuQuery) (b : Bool) :
    checkPmuAccess { q with fineTrap := b } s = checkPmuAccess q s := by
  simp [checkPmuAccess, checkEL2Traps, h]

/-- The check chain itself reads no fine-grained trap bit: only the query does. -/
theorem checkPmuAccess_setFineTraps (q : PmuQuery) (s : State) (r w : FineTraps) :
    checkPmuAccess q (s.mapCtl (Controls.setFineTraps r w)) = checkPmuAccess q s := rfl

/-- Of the query the fine-grained trap registers move arm D's bit only. -/
theorem PmuAccess.query_setFineTraps {i : Instr} {q : State → PmuQuery} {e : PmuEffect} (h : PmuAccess i q e)
    (s : State) (r w : FineTraps) :
    ∃ b, q (s.mapCtl (Controls.setFineTraps r w)) = { q s with fineTrap := b } := by
  cases h <;> exact ⟨_, rfl⟩

/-- Settles O25: with the traps off no verdict moves with the bits. The premise that the access is predictable is not
used, since both runs of an unpredictable one consult the same draw. -/
theorem fineGrainedTrapsNeedFgten : Obligations.FineGrainedTrapsNeedFgten := by
  unfold Obligations.FineGrainedTrapsNeedFgten
  intro i s r w h3 hf _
  refine exec_mapCtl (keepsSelection_setFineTraps r w) i s fun q e h => ?_
  obtain ⟨b, hb⟩ := h.query_setFineTraps s r w
  rw [hb, checkPmuAccess_setFineTraps, checkPmuAccess_fineTrap (State.fgtActive_of_fgten_zero h3 hf)]

end Sys2Proof.Machine
end

section
/-! EDSCR.SDD in and outside Debug state (10_state.md R42). -/

namespace Sys2Proof.Machine

/-- EDSCR.SDD replaced. -/
def Controls.setSdd (b : Bool) (c : Controls) : Controls := { c with edscrSdd := b }

theorem keepsSelection_setSdd (b : Bool) : KeepsSelection (Controls.setSdd b) :=
  ⟨fun _ => rfl, fun _ => rfl, fun _ => rfl⟩

/-- No query reads EDSCR.SDD. -/
theorem PmuAccess.query_setSdd {i : Instr} {q : State → PmuQuery} {e : PmuEffect} (h : PmuAccess i q e) (s : State)
    (b : Bool) : q (s.mapCtl (Controls.setSdd b)) = q s := by
  cases h <;> rfl

/-- Arms D to F read no EDSCR.SDD. -/
theorem checkEL2Traps_setSdd (q : PmuQuery) (fine : Bool) (s : State) (b : Bool) (r : Verdict) :
    checkEL2Traps q fine (s.mapCtl (Controls.setSdd b)) r = checkEL2Traps q fine s r := rfl

theorem State.sddUndef_of_not_halted {s : State} (h : s.halted = false) : s.sddUndef = false := by
  simp [State.sddUndef, h]

theorem State.sddPrio_of_not_halted {s : State} (h : s.halted = false) : s.sddPrio = false := by
  simp [State.sddPrio, h]

/-- Outside Debug state no arm reads EDSCR.SDD: arms B and G consult it with Halted() only (R112, R210). -/
theorem checkPmuAccess_setSdd_of_not_halted {s : State} (h : s.halted = false) (q : PmuQuery) (b : Bool) :
    checkPmuAccess q (s.mapCtl (Controls.setSdd b)) = checkPmuAccess q s := by
  have h' : (s.mapCtl (Controls.setSdd b)).halted = false := h
  have hprio : (s.mapCtl (Controls.setSdd b)).sddPrio = s.sddPrio :=
    (State.sddPrio_of_not_halted h').trans (State.sddPrio_of_not_halted h).symm
  have hel3 : ∀ r, checkEL3Trap (s.mapCtl (Controls.setSdd b)) r = checkEL3Trap s r := fun r => by
    unfold checkEL3Trap
    rw [State.sddUndef_of_not_halted h', State.sddUndef_of_not_halted h]
    rfl
  unfold checkPmuAccess
  rw [hprio]
  simp only [hel3, checkEL2Traps_setSdd]
  rfl

/-- In Debug state EDSCR.SDD turns arm G's trap into Undefined. -/
theorem checkEL3Trap_setSdd_of_halted {s : State} (h : s.halted = true) {r : Verdict} (hr : r ≠ .trap .el3)
    (ht : checkEL3Trap (s.mapCtl (Controls.setSdd false)) r = .trap .el3) :
    checkEL3Trap (s.mapCtl (Controls.setSdd true)) r = .undefined := by
  have hundef : (s.mapCtl (Controls.setSdd true)).sddUndef = true := by
    simp [State.sddUndef, Controls.setSdd, h]
  obtain hpass | ⟨hundef', -⟩ | ⟨-, hel3, htpm, -⟩ := checkEL3Trap_eq (s.mapCtl (Controls.setSdd false)) r
  · exact absurd (hpass.symm.trans ht) hr
  · rw [hundef'] at ht; cases ht
  · have harm : ((s.mapCtl (Controls.setSdd true)).cfg.haveEL3
        && (s.mapCtl (Controls.setSdd true)).ctl.mdcrEl3Tpm) = true := Bool.and_eq_true_iff.mpr ⟨hel3, htpm⟩
    simp only [checkEL3Trap, harm, hundef, if_true]

/-- Arms D to F never trap to EL3 themselves: where the answer is that trap, they pass every continuation on. -/
theorem checkEL2Traps_passes_of_trapEL3 {q : PmuQuery} {fine : Bool} {s : State} {r : Verdict}
    (ht : checkEL2Traps q fine s r = .trap .el3) (r' : Verdict) : checkEL2Traps q fine s r' = r' := by
  unfold checkEL2Traps at ht ⊢
  by_cases hfine : (s.el2Enabled && fine) = true
  · simp [hfine] at ht
  by_cases htpm : (s.el2Enabled && s.ctl.mdcrEl2.tpm) = true
  · simp [hfine, htpm] at ht
  by_cases hcount : (s.el2Enabled && !q.exempt) = true
  · simp only [hfine, htpm, hcount, if_true, Bool.false_eq_true, if_false] at ht ⊢
    cases hn : s.numAccessible with
    | none => simp [hn] at ht
    | some n =>
      by_cases hs : n ≤ s.sel
      · by_cases hfgt : s.cfg.featFGT = true <;> simp [hn, hs, hfgt] at ht
      · simp [hs]
  · simp only [hfine, htpm, hcount, Bool.false_eq_true, if_false]

/-- In Debug state EDSCR.SDD turns arm G's trap into Undefined behind arms D to F too. -/
theorem checkEL2Traps_setSdd_of_halted {s : State} (h : s.halted = true) {q : PmuQuery} {fine : Bool} {r : Verdict}
    (hr : r ≠ .trap .el3)
    (ht : checkEL2Traps q fine s (checkEL3Trap (s.mapCtl (Controls.setSdd false)) r) = .trap .el3) :
    checkEL2Traps q fine s (checkEL3Trap (s.mapCtl (Controls.setSdd true)) r) = .undefined := by
  have passes := checkEL2Traps_passes_of_trapEL3 ht
  rw [passes] at ht ⊢
  exact checkEL3Trap_setSdd_of_halted h hr ht

/-- In Debug state EDSCR.SDD turns the verdict that traps to EL3 into Undefined, by arm B or by arm G (R42). -/
theorem checkPmuAccess_setSdd_of_halted {s : State} (h : s.halted = true) {q : PmuQuery}
    (ht : checkPmuAccess q (s.mapCtl (Controls.setSdd false)) = .trap .el3) :
    checkPmuAccess q (s.mapCtl (Controls.setSdd true)) = .undefined := by
  have hprio : (s.mapCtl (Controls.setSdd false)).sddPrio = false := by simp [State.sddPrio, Controls.setSdd]
  unfold checkPmuAccess at ht ⊢
  rw [hprio] at ht
  simp only [State.mapCtl_cfg, State.mapCtl_pstate, (keepsSelection_setSdd _).sel_eq, checkEL2Traps_setSdd] at ht ⊢
  by_cases hpmu : (!s.cfg.featPMUv3) = true
  · rw [if_pos hpmu] at ht; cases ht
  by_cases harmA : (!q.exempt && decide (s.cfg.numCounters.val ≤ s.sel)) = true
  · by_cases hfgt : s.cfg.featFGT = true <;> simp [hpmu, harmA, hfgt] at ht
  rw [if_neg hpmu, if_neg harmA] at ht ⊢
  by_cases harmB : (s.mapCtl (Controls.setSdd true)).sddPrio = true
  · cases hel : s.pstate.el with
    | el0 | el1 | el2 => simp only [harmB, if_true]
    | el3 => rw [hel] at ht; cases ht
  · cases hel : s.pstate.el with
    | el0 =>
      simp only [hel, harmB, Bool.false_eq_true, if_false] at ht ⊢
      by_cases hdis : q.el0Disabled = true
      · simp only [hdis, if_true] at ht
        split at ht <;> cases ht
      · rw [if_neg hdis] at ht ⊢
        exact checkEL2Traps_setSdd_of_halted h (by split <;> exact Verdict.noConfusion) ht
    | el1 =>
      simp only [hel, harmB, Bool.false_eq_true, if_false] at ht ⊢
      exact checkEL2Traps_setSdd_of_halted h Verdict.noConfusion ht
    | el2 =>
      simp only [hel, harmB, Bool.false_eq_true, if_false] at ht ⊢
      exact checkEL3Trap_setSdd_of_halted h Verdict.noConfusion ht
    | el3 => rw [hel] at ht; cases ht

/-- In Debug state EDSCR.SDD turns a PMU access's trap to EL3 into Undefined (R42). -/
theorem PmuAccess.exec_setSdd_of_halted {i : Instr} {q : State → PmuQuery} {e : PmuEffect} (h : PmuAccess i q e)
    {s : State} (hh : s.halted = true) {code : Nat} {iss : BitVec 25}
    (ht : exec i (s.mapCtl (Controls.setSdd false)) = .fault (.systemAccessTrap .el3 code iss)) :
    exec i (s.mapCtl (Controls.setSdd true)) = .fault .undefined := by
  rw [h.exec_eq, h.query_setSdd] at ht ⊢
  rw [checkPmuAccess_setSdd_of_halted hh (verdict_of_finishPmuAccess_trapEL3 ht)]
  rfl

/-- Settles O26: outside Debug state no verdict moves with SDD, and in it the trap to EL3 is the verdict of arm G. The
premise that the access is predictable is not used, since both runs of an unpredictable one consult the same draw. -/
theorem sddActsOnlyInDebugStateOnEl3Traps : Obligations.SddActsOnlyInDebugStateOnEl3Traps := by
  unfold Obligations.SddActsOnlyInDebugStateOnEl3Traps
  intro i s
  constructor
  · intro hh _
    refine exec_mapCtl (keepsSelection_setSdd true) i (s.mapCtl (Controls.setSdd false)) fun q e h => ?_
    rw [h.query_setSdd]
    exact checkPmuAccess_setSdd_of_not_halted (s := s.mapCtl (Controls.setSdd false)) hh _ true
  · intro hh code iss ht
    obtain ⟨q, e, h⟩ | ⟨t, rfl⟩ | ⟨t, rfl⟩ := pmuAccess_or_dspsr i
    · exact h.exec_setSdd_of_halted hh ht
    · simp [exec, execMrsDspsr, hh] at ht
    · simp [exec, execMsrDspsr, hh] at ht

end Sys2Proof.Machine
end

section
/-! Encodings that are UNDEFINED by configuration or state (30_encoding.md R95). -/

namespace Sys2Proof.Machine

/-- What takes the check chain is one of the four PMU instructions. -/
theorem PmuAccess.isPmuInstr_eq {i : Instr} {q : State → PmuQuery} {e : PmuEffect} (h : PmuAccess i q e) :
    isPmuInstr i = true := by
  cases h <;> rfl

/-- The feature is tested before arm A, so no selector, level or trap control is consulted (R210 item 0). -/
theorem checkPmuAccess_of_no_pmuv3 {s : State} (h : s.cfg.featPMUv3 = false) (q : PmuQuery) :
    checkPmuAccess q s = .undefined := by
  simp [checkPmuAccess, h]

/-- R95 (a), for any of the four PMU instructions. -/
theorem PmuAccess.exec_of_no_pmuv3 {i : Instr} {q : State → PmuQuery} {e : PmuEffect} (h : PmuAccess i q e)
    {s : State} (hf : s.cfg.featPMUv3 = false) : exec i s = .fault .undefined := by
  rw [h.exec_eq, checkPmuAccess_of_no_pmuv3 hf]
  rfl

/-- R95 (b), for the read (R180). -/
theorem exec_mrsDspsr_of_not_halted {s : State} (h : s.halted = false) (t : Nat) :
    exec (.mrsDspsr t) s = .fault .undefined := by
  simp [exec, execMrsDspsr, raiseUndefined, h]

/-- R95 (b), for the write (R181). -/
theorem exec_msrDspsr_of_not_halted {s : State} (h : s.halted = false) (t : Nat) :
    exec (.msrDspsr t) s = .fault .undefined := by
  simp [exec, execMsrDspsr, raiseUndefined, h]

/-- Settles O17: the feature and Debug state are each tested before anything else the instruction consults. -/
theorem absentRegistersAreUndefined : Obligations.AbsentRegistersAreUndefined := by
  unfold Obligations.AbsentRegistersAreUndefined
  intro i s
  obtain ⟨q, e, h⟩ | ⟨t, rfl⟩ | ⟨t, rfl⟩ := pmuAccess_or_dspsr i
  · exact ⟨fun _ hf => h.exec_of_no_pmuv3 hf, fun hi => absurd hi (by simp [h.isPmuInstr_eq])⟩
  · exact ⟨Bool.noConfusion, fun _ hh => exec_mrsDspsr_of_not_halted hh t⟩
  · exact ⟨Bool.noConfusion, fun _ hh => exec_msrDspsr_of_not_halted hh t⟩

end Sys2Proof.Machine
end

section
/-! The decoder and the encoder: each row of the opcode table as a word, and the round trip (30_encoding.md R91 to R93,
R96). -/

namespace Sys2Proof

/-- The word of a triple, its width written as the sum of its fields' widths (R91). -/
def fieldsWord (a : SysAccess) : BitVec (10 + 1 + 1 + 1 + 3 + 4 + 4 + 3 + 5) :=
  0b1101010100#10 ++ BitVec.ofBool (decide (a.dir = .read)) ++ 1#1 ++ a.point.op0.extractLsb' 0 1
    ++ a.point.op1 ++ a.point.crn ++ a.point.crm ++ a.point.op2 ++ a.t

theorem encodeFields_eq_fieldsWord (a : SysAccess) : encodeFields a = fieldsWord a := rfl

/-- Each field of a triple stands at its place in the word (R91). -/
theorem extractLsb'_fieldsWord (a : SysAccess) :
    (fieldsWord a).extractLsb' 22 10 = 0b1101010100#10
      ∧ (fieldsWord a).extractLsb' 21 1 = BitVec.ofBool (decide (a.dir = .read))
      ∧ (fieldsWord a).extractLsb' 20 1 = 1#1
      ∧ (fieldsWord a).extractLsb' 19 1 = a.point.op0.extractLsb' 0 1
      ∧ (fieldsWord a).extractLsb' 16 3 = a.point.op1
      ∧ (fieldsWord a).extractLsb' 12 4 = a.point.crn
      ∧ (fieldsWord a).extractLsb' 8 4 = a.point.crm
      ∧ (fieldsWord a).extractLsb' 5 3 = a.point.op2
      ∧ (fieldsWord a).extractLsb' 0 5 = a.t := by
  unfold fieldsWord
  simp (disch := decide) only [BitVec.extractLsb'_append_eq_of_le, BitVec.extractLsb'_append_eq_of_add_le,
    Nat.reduceSub, BitVec.extractLsb'_eq_self, and_self]

/-- A bit is the field of width 1 at its place. -/
theorem extractLsb'_one_eq_ofBool {n : Nat} (x : BitVec n) (k : Nat) :
    x.extractLsb' k 1 = BitVec.ofBool (x.getLsbD k) := by
  ext i hi
  obtain rfl : i = 0 := by omega
  simp

theorem ofBool_injective {a b : Bool} (h : BitVec.ofBool a = BitVec.ofBool b) : a = b := by
  revert a b; decide

/-- op0 of the access format is its lower bit behind a 1 (R91). -/
theorem op0_of_lower_bit {b : BitVec 2} (h : b.getLsbD 1 = true) : (if b.getLsbD 0 then 0b11 else 0b10) = b := by
  revert b; decide

/-- A triple of the access format is the one its word holds (R91). -/
theorem decodeFields_encodeFields {a : SysAccess} (h : a.point.op0.getLsbD 1 = true) :
    decodeFields (encodeFields a) = some a := by
  obtain ⟨hfix, hdir, hone, hop0, hop1, hcrn, hcrm, hop2, ht⟩ := extractLsb'_fieldsWord a
  rw [extractLsb'_one_eq_ofBool] at hdir hone hop0
  rw [extractLsb'_one_eq_ofBool] at hop0
  rw [← encodeFields_eq_fieldsWord] at hfix hdir hone hop0 hop1 hcrn hcrm hop2 ht
  have hread : (encodeFields a).getLsbD 21 = decide (a.dir = .read) := ofBool_injective hdir
  have hbit20 : (encodeFields a).getLsbD 20 = true := ofBool_injective hone
  have hbit19 : (encodeFields a).getLsbD 19 = a.point.op0.getLsbD 0 := ofBool_injective hop0
  have hdir' : (if a.dir = .read then Direction.read else .write) = a.dir := by cases a.dir <;> rfl
  simp only [decodeFields, hfix, hbit20, hread, hbit19, hop1, hcrn, hcrm, hop2, ht, and_self, if_true,
    op0_of_lower_bit h, decide_eq_true_eq, hdir']

/-- The word of the triple a word holds is that word: no bit is dropped (R91). -/
theorem encodeFields_of_decodeFields {w : InstrWord} {a : SysAccess} (h : decodeFields w = some a) :
    encodeFields a = w := by
  unfold decodeFields at h
  split at h
  case isFalse => cases h
  case isTrue hfix =>
    obtain ⟨h22, h20⟩ := hfix
    cases h
    have hdir : BitVec.ofBool (decide ((if w.getLsbD 21 then Direction.read else .write) = .read))
        = w.extractLsb' 21 1 := by
      rw [extractLsb'_one_eq_ofBool]; cases w.getLsbD 21 <;> rfl
    have hone : 1#1 = w.extractLsb' 20 1 := by rw [extractLsb'_one_eq_ofBool, h20]; rfl
    have hop0 : (if w.getLsbD 19 then 0b11#2 else 0b10#2).extractLsb' 0 1 = w.extractLsb' 19 1 := by
      rw [extractLsb'_one_eq_ofBool w]; cases w.getLsbD 19 <;> rfl
    calc encodeFields _
        = w.extractLsb' 22 10 ++ w.extractLsb' 21 1 ++ w.extractLsb' 20 1 ++ w.extractLsb' 19 1 ++ w.extractLsb' 16 3
            ++ w.extractLsb' 12 4 ++ w.extractLsb' 8 4 ++ w.extractLsb' 5 3 ++ w.extractLsb' 0 5 := by
          rw [h22, ← hdir, ← hone, ← hop0]; rfl
      _ = w := by simp only [BitVec.extractLsb'_append_extractLsb'_eq_extractLsb', BitVec.extractLsb'_eq_self]

/-- The triple of every instruction is of the access format: op0 is 0b11 (R72). -/
theorem accessOf_op0 (i : Instr) : (accessOf i).point.op0 = 0b11 := by
  cases i <;> rfl

/-- The triple of a well-formed instruction names it (R92). -/
theorem instrOfAccess_accessOf {i : Instr} (h : i.wellFormed = true) : instrOfAccess (accessOf i) = some i := by
  cases i with
  | mrsPmxevcntr t => exact Laws.AccessNamesInstr.mrsPmxevcntr t h
  | msrPmxevcntr t => exact Laws.AccessNamesInstr.msrPmxevcntr t h
  | mrsPmxevtyper t => exact Laws.AccessNamesInstr.mrsPmxevtyper t h
  | msrPmxevtyper t => exact Laws.AccessNamesInstr.msrPmxevtyper t h
  | mrsDspsr t => exact Laws.AccessNamesInstr.mrsDspsr t h
  | msrDspsr t => exact Laws.AccessNamesInstr.msrDspsr t h

/-- A triple that names an instruction is that instruction's, and its operand is a 5-bit number (R92). -/
theorem accessOf_of_instrOfAccess {a : SysAccess} {i : Instr} (h : instrOfAccess a = some i) :
    i.wellFormed = true ∧ accessOf i = a := by
  obtain ⟨dir, point, t⟩ := a
  have ht : t.toNat < 32 := t.isLt
  unfold instrOfAccess at h
  split_ifs at h with hcntr htyper hdspsr
  · dsimp only at hcntr h
    subst hcntr
    cases dir <;> cases h <;> simp [Instr.wellFormed, Instr.operand, accessOf, ht]
  · dsimp only at htyper h
    subst htyper
    cases dir <;> cases h <;> simp [Instr.wellFormed, Instr.operand, accessOf, ht]
  · dsimp only at hdspsr h
    subst hdspsr
    cases dir <;> cases h <;> simp [Instr.wellFormed, Instr.operand, accessOf, ht]

/-- What it is to decode to an instruction: the word holds a triple that names it (R93, R96). -/
theorem decode_eq_instr_iff_bind {w : InstrWord} {i : Instr} :
    decode w = .instr i ↔ (decodeFields w).bind instrOfAccess = some i := by
  unfold decode
  cases (decodeFields w).bind instrOfAccess <;> simp

theorem decode_encode {i : Instr} (h : i.wellFormed = true) : decode (encode i) = .instr i := by
  rw [decode_eq_instr_iff_bind, encode, decodeFields_encodeFields (by rw [accessOf_op0]; decide)]
  exact instrOfAccess_accessOf h

theorem encode_of_decode {w : InstrWord} {i : Instr} (h : decode w = .instr i) :
    i.wellFormed = true ∧ encode i = w := by
  obtain ⟨a, hfields, hname⟩ := Option.bind_eq_some_iff.mp (decode_eq_instr_iff_bind.mp h)
  obtain ⟨hwf, rfl⟩ := accessOf_of_instrOfAccess hname
  exact ⟨hwf, encodeFields_of_decodeFields hfields⟩

/-- The words of an instruction, from the round trip: its encoding and no other. -/
theorem decode_eq_instr_iff {w : InstrWord} {i : Instr} :
    decode w = .instr i ↔ i.wellFormed = true ∧ encode i = w :=
  ⟨encode_of_decode, fun ⟨hwf, hw⟩ => hw ▸ decode_encode hwf⟩

/-- Settles O3: the fields of a word and the triple of an instruction determine each other. -/
theorem decodeAndEncodeAgree : Obligations.DecodeAndEncodeAgree := by
  unfold Obligations.DecodeAndEncodeAgree
  exact ⟨fun _ => decode_encode, fun _ _ => encode_of_decode⟩

/-- The match value of an instruction's row, without its five operand bits (R93). -/
def rowPrefix : Instr → BitVec 27
  | .mrsPmxevcntr _ => 0x6A9DCEA
  | .msrPmxevcntr _ => 0x6A8DCEA
  | .mrsPmxevtyper _ => 0x6A9DCE9
  | .msrPmxevtyper _ => 0x6A8DCE9
  | .mrsDspsr _ => 0x6A9DA28
  | .msrDspsr _ => 0x6A8DA28

/-- The word of an instruction is its row's match value with the operand in the low five bits (R93). -/
theorem encode_eq_append (i : Instr) : encode i = rowPrefix i ++ BitVec.ofNat 5 i.operand := by
  cases i <;> simp [encode, encodeFields, accessOf, pointPmxevcntr, pointPmxevtyper, pointDspsr, rowPrefix,
    Instr.operand]

/-- A word's upper 27 bits and its operand bits determine each other's word. -/
theorem append_inj {p q : BitVec 27} {x y : BitVec 5} (h : p ++ x = q ++ y) : p = q ∧ x = y := by
  have hp := congrArg (BitVec.extractLsb' 5 27) h
  have hx := congrArg (BitVec.extractLsb' 0 5) h
  rw [BitVec.extractLsb'_append_eq_left, BitVec.extractLsb'_append_eq_left] at hp
  rw [BitVec.extractLsb'_append_eq_right, BitVec.extractLsb'_append_eq_right] at hx
  exact ⟨hp, hx⟩

/-- The mask 0xFFFFFFE0 keeps the upper 27 bits and clears the operand (R93). -/
theorem append_and_rowMask (p : BitVec 27) (x : BitVec 5) : (p ++ x) &&& (0xFFFFFFE0 : InstrWord) = p ++ 0#5 := by
  have hmask : (0xFFFFFFE0 : InstrWord) = BitVec.allOnes 27 ++ 0#5 := by decide
  rw [hmask, BitVec.and_append, BitVec.and_allOnes, BitVec.and_zero]

/-- The mask 0x1F keeps the operand (R93). -/
theorem append_and_operandMask (p : BitVec 27) (x : BitVec 5) : ((p ++ x) &&& (0x1F : InstrWord)).toNat = x.toNat := by
  have hmask : (0x1F : InstrWord) = 0#27 ++ BitVec.allOnes 5 := by decide
  rw [hmask, BitVec.and_append, BitVec.and_allOnes, BitVec.and_zero, BitVec.toNat_append]
  simp

/-- A word is a prefix and a 5-bit operand exactly when its masked bits are the prefix's match value and its other
bits the operand (R93). -/
theorem append_eq_iff_masked (p : BitVec 27) (t : Nat) (w : InstrWord) :
    t < 32 ∧ p ++ BitVec.ofNat 5 t = w ↔ w &&& (0xFFFFFFE0 : InstrWord) = p ++ 0#5 ∧ t = (w &&& (0x1F : InstrWord)).toNat := by
  obtain ⟨q, x, rfl⟩ : ∃ (q : BitVec 27) (x : BitVec 5), w = q ++ x :=
    ⟨w.extractLsb' 5 27, w.extractLsb' 0 5, (BitVec.extractLsb'_append_extractLsb' (w := 27) (len := 5) (x := w)).symm⟩
  rw [append_and_rowMask, append_and_operandMask]
  constructor
  · rintro ⟨ht, h⟩
    obtain ⟨rfl, rfl⟩ := append_inj h
    exact ⟨rfl, by simp; omega⟩
  · rintro ⟨h, rfl⟩
    obtain ⟨rfl, -⟩ := append_inj h
    exact ⟨x.isLt, by simp⟩

/-- The match values of the opcode table, row by row (R93). -/
def rowMatch : Instr → InstrWord
  | .mrsPmxevcntr _ => 0xD53B9D40
  | .msrPmxevcntr _ => 0xD51B9D40
  | .mrsPmxevtyper _ => 0xD53B9D20
  | .msrPmxevtyper _ => 0xD51B9D20
  | .mrsDspsr _ => 0xD53B4500
  | .msrDspsr _ => 0xD51B4500

theorem rowPrefix_append_zero (i : Instr) : rowPrefix i ++ 0#5 = rowMatch i := by
  cases i with
  | mrsPmxevcntr t => exact (by decide : 0x6A9DCEA#27 ++ 0#5 = (0xD53B9D40 : InstrWord))
  | msrPmxevcntr t => exact (by decide : 0x6A8DCEA#27 ++ 0#5 = (0xD51B9D40 : InstrWord))
  | mrsPmxevtyper t => exact (by decide : 0x6A9DCE9#27 ++ 0#5 = (0xD53B9D20 : InstrWord))
  | msrPmxevtyper t => exact (by decide : 0x6A8DCE9#27 ++ 0#5 = (0xD51B9D20 : InstrWord))
  | mrsDspsr t => exact (by decide : 0x6A9DA28#27 ++ 0#5 = (0xD53B4500 : InstrWord))
  | msrDspsr t => exact (by decide : 0x6A8DA28#27 ++ 0#5 = (0xD51B4500 : InstrWord))

/-- A word decodes to an instruction exactly when it has the row's masked bits and the operand in the low five. -/
theorem decode_eq_instr_iff_masked (w : InstrWord) (i : Instr) :
    decode w = .instr i ↔ w &&& (0xFFFFFFE0 : InstrWord) = rowMatch i ∧ i.operand = (w &&& (0x1F : InstrWord)).toNat := by
  rw [decode_eq_instr_iff, encode_eq_append, Instr.wellFormed, decide_eq_true_eq, append_eq_iff_masked,
    rowPrefix_append_zero]

/-- Settles O2: each row is the masked word of its instruction. -/
theorem wordIsARowExactlyWhenItsMaskedBitsMatch : Obligations.WordIsARowExactlyWhenItsMaskedBitsMatch := by
  unfold Obligations.WordIsARowExactlyWhenItsMaskedBitsMatch
  intro w t
  exact ⟨decode_eq_instr_iff_masked w (.mrsPmxevcntr t), decode_eq_instr_iff_masked w (.msrPmxevcntr t),
    decode_eq_instr_iff_masked w (.mrsPmxevtyper t), decode_eq_instr_iff_masked w (.msrPmxevtyper t),
    decode_eq_instr_iff_masked w (.mrsDspsr t), decode_eq_instr_iff_masked w (.msrDspsr t)⟩

/-- A word that decodes to no instruction is rejected by its own name (R96). -/
theorem decode_eq_unknown {w : InstrWord} (h : ∀ i, decode w ≠ .instr i) : decode w = .unknown w := by
  unfold decode at h ⊢
  cases hb : (decodeFields w).bind instrOfAccess with
  | none => rfl
  | some i => exact absurd (by rw [hb]) (h i)

/-- A word with no row's masked bits is rejected by name (R96). -/
theorem decode_of_no_row {w : InstrWord}
    (h : w &&& 0xFFFFFFE0 ∉ ([0xD53B9D40, 0xD51B9D40, 0xD53B9D20, 0xD51B9D20, 0xD53B4500, 0xD51B4500] : List InstrWord)) :
    decode w = .unknown w := by
  refine decode_eq_unknown fun i hi => h ?_
  obtain ⟨hrow, -⟩ := (decode_eq_instr_iff_masked w i).mp hi
  rw [hrow]
  cases i <;> simp [rowMatch]

/-- Settles O1, by running the decoder on the words. -/
theorem specWordsDecodeToTheirInstructions : Obligations.SpecWordsDecodeToTheirInstructions := by
  unfold Obligations.SpecWordsDecodeToTheirInstructions
  decide

end Sys2Proof
end

section
/-! Supplying a word, and the two instructions of DSPSR_EL0 (30_encoding.md R96, 42_dspsr.md R180, R181). -/

namespace Sys2Proof

/-- The operand bits are added to the row's match value (R93). -/
theorem append_eq_add (p : BitVec 27) (x : BitVec 5) : p ++ x = (p ++ 0#5) + x.setWidth 32 := by
  apply BitVec.eq_of_toNat_eq
  have hx : x.toNat < 2 ^ 5 := x.isLt
  have hp : p.toNat < 2 ^ 27 := p.isLt
  have hor : p.toNat * 2 ^ 5 ||| x.toNat = p.toNat * 2 ^ 5 + x.toNat := by
    rw [← Nat.shiftLeft_eq, Nat.shiftLeft_add_eq_or_of_lt hx]
  simp only [BitVec.toNat_append, BitVec.toNat_add, BitVec.toNat_setWidth, BitVec.toNat_ofNat, Nat.zero_mod, Nat.or_zero,
    Nat.shiftLeft_eq, hor]
  omega

/-- The word of a well-formed instruction is its row's match value plus its operand (R93). -/
theorem encode_eq_rowMatch_add {i : Instr} (h : i.wellFormed = true) :
    encode i = rowMatch i + BitVec.ofNat 32 i.operand := by
  have ht : i.operand < 32 := of_decide_eq_true h
  have hop : (BitVec.ofNat 5 i.operand).setWidth 32 = BitVec.ofNat 32 i.operand := by
    apply BitVec.eq_of_toNat_eq
    simp
    omega
  rw [encode_eq_append, append_eq_add, rowPrefix_append_zero, hop]

namespace Machine

/-- In a state R43 admits the step makes the next waiting move. -/
theorem step_of_stateAdmitted {s : State} {m : HostMove} {rest : List HostMove} (ha : StateAdmitted s)
    (hi : s.inputs = m :: rest) : step s = runMove m (s.setInputs rest) :=
  step_of_admitted ((stateAdmitted_iff s).mp ha) hi

/-- A supplied word that decodes is executed on the state with the move taken (R229). -/
theorem step_supply {s : State} {w : InstrWord} {rest : List HostMove} {i : Instr} (ha : StateAdmitted s)
    (hi : s.inputs = .supply w :: rest) (hd : decode w = .instr i) : step s = exec i (s.setInputs rest) := by
  rw [step_of_stateAdmitted ha hi]
  simp only [runMove, runWord, hd]

/-- Settles O4: such a word decodes to no instruction. -/
theorem wordsOfNoRowAreRefusedByName : Obligations.WordsOfNoRowAreRefusedByName := by
  unfold Obligations.WordsOfNoRowAreRefusedByName
  intro s w rest ha hi hw
  rw [step_of_stateAdmitted ha hi]
  simp only [runMove, runWord, decode_of_no_row hw]

/-- Settles O5; that the instruction is well formed is not used, since decoding gives no other. -/
theorem stepRunsTheDecodedInstruction : Obligations.StepRunsTheDecodedInstruction := by
  unfold Obligations.StepRunsTheDecodedInstruction
  exact fun s w rest i ha hi hd _ => step_supply ha hi hd

theorem decode_of_decodeTableWord {nbits w : Nat} {i : Instr} (h : decodeTableWord nbits w = some i) :
    decode (BitVec.ofNat 32 (w % 2 ^ nbits)) = .instr i := by
  unfold decodeTableWord at h
  split at h
  · split at h
    · rename_i hd
      rw [hd, Option.some.inj h]
    · cases h
  · cases h

/-- Settles O6: the placed word is the next move, and taking it gives the state back. -/
theorem placedTableWordRunsNext : Obligations.PlacedTableWordRunsNext := by
  unfold Obligations.PlacedTableWordRunsNext
  intro s nbits w i ha hd
  exact step_supply (s := s.withFetchWord nbits w) ha rfl (decode_of_decodeTableWord hd)

/-- In Debug state a completion leaves the program counter alone (D17). -/
theorem State.advance_of_halted {s : State} (h : s.halted = true) : s.advance = s := by
  simp [State.advance, h]

/-- In Debug state the read of DSPSR_EL0 completes at every level (R180). -/
theorem exec_mrsDspsr_of_halted {s : State} (h : s.halted = true) (t : Nat) :
    exec (.mrsDspsr t) s = .next (s.setX t s.dspsr) := by
  have hadv : (s.setX t s.dspsr).advance = s.setX t s.dspsr := State.advance_of_halted (by simpa using h)
  simp [exec, execMrsDspsr, h, hadv]

/-- In Debug state the write of DSPSR_EL0 completes at every level (R181). -/
theorem exec_msrDspsr_of_halted {s : State} (h : s.halted = true) (t : Nat) :
    exec (.msrDspsr t) s = .next (s.setDspsr (res0Mask s.cfg (s.readX t))) := by
  have hadv : ∀ v, (s.setDspsr v).advance = s.setDspsr v := fun v => State.advance_of_halted (by simpa using h)
  simp [exec, execMsrDspsr, h, hadv]

/-- Settles O15: the three clauses are the two outcomes and the word of the row. -/
theorem mrsDspsrCompletesExactlyInDebugState : Obligations.MrsDspsrCompletesExactlyInDebugState := by
  unfold Obligations.MrsDspsrCompletesExactlyInDebugState
  exact fun t s => ⟨fun h => exec_mrsDspsr_of_halted h t, fun h => exec_mrsDspsr_of_not_halted h t,
    fun ht => encode_eq_rowMatch_add (i := .mrsDspsr t) (decide_eq_true ht)⟩

/-- Settles O16: XZR reads as 0, so the case of operand 31 is no exception. -/
theorem msrDspsrCompletesExactlyInDebugState : Obligations.MsrDspsrCompletesExactlyInDebugState := by
  unfold Obligations.MsrDspsrCompletesExactlyInDebugState
  intro t s
  have hxzr : (if t = 31 then 0 else s.readX t) = s.readX t := by
    split
    · simp [*]
    · rfl
  rw [hxzr]
  exact ⟨fun h => exec_msrDspsr_of_halted h t, fun h => exec_msrDspsr_of_not_halted h t,
    fun ht => encode_eq_rowMatch_add (i := .msrDspsr t) (decide_eq_true ht)⟩

end Machine
end Sys2Proof
end

section
/-! SUPPORT. The terms of the check chain in the statements' words (40_pmxevcntr.md R112, 10_state.md R43). -/

namespace Sys2Proof.Machine

theorem State.el2Enabled_eq (s : State) : s.el2Enabled = pseudoEL2Enabled s := by
  unfold State.el2Enabled Arch.el2Enabled pseudoEL2Enabled
  cases s.pstate.el <;> rfl

theorem State.sel_eq (s : State) : s.sel = s.ctl.pmselrSel.toNat := rfl

theorem State.sel_eq_31_iff (s : State) : s.sel = 31 ↔ s.ctl.pmselrSel = 31 := by
  rw [State.sel_eq, ← BitVec.toNat_inj]
  rfl

/-- There are at most 31 event counters (D26). -/
theorem numCounters_le (c : Config) : c.numCounters.val ≤ 31 := Nat.le_of_lt_succ c.numCounters.isLt

/-- The premise of the pseudocode statements: R43 does not refuse the state for an access. -/
theorem not_hpmnRefused_iff (s : State) :
    ¬HpmnRefused s ↔ (BelowEL2 s → pseudoEL2Enabled s = true → HpmnAdmitted s) := by
  unfold HpmnRefused HpmnAdmitted
  constructor
  · intro h hb he
    by_contra hn
    obtain ⟨hgt, hnone⟩ := not_or.mp hn
    exact h ⟨hb, he, Nat.lt_of_not_le hgt, by simpa using hnone⟩
  · rintro h ⟨hb, he, hgt, hnone⟩
    obtain hle | hsome := h hb he
    · omega
    · simp [hnone] at hsome

section NumAccessible

variable {s : State}

theorem pseudoNumAccessible_of_guest (hb : BelowEL2 s) (he : pseudoEL2Enabled s = true) :
    pseudoNumAccessible s = if s.cfg.numCounters.val < s.ctl.mdcrEl2.hpmn.toNat then
      min (s.cfg.hpmnOutOfRange.getD 0) s.cfg.numCounters.val else s.ctl.mdcrEl2.hpmn.toNat := by
  have hlow : (decide (s.pstate.el = .el0) || decide (s.pstate.el = .el1)) = true := by simpa using hb
  simp [pseudoNumAccessible, he, hlow]

theorem pseudoNumAccessible_of_not_guest (h : ¬(BelowEL2 s ∧ pseudoEL2Enabled s = true)) :
    pseudoNumAccessible s = s.cfg.numCounters.val := by
  unfold pseudoNumAccessible
  rw [if_neg]
  simpa [and_comm] using h

theorem State.numAccessible_of_guest (hb : BelowEL2 s) (he : pseudoEL2Enabled s = true) :
    s.numAccessible = if s.ctl.mdcrEl2.hpmn.toNat ≤ s.cfg.numCounters.val then some s.ctl.mdcrEl2.hpmn.toNat
      else s.cfg.hpmnOutOfRange.map (fun n => min n s.cfg.numCounters.val) := by
  have hlow : (s.pstate.el == .el0 || s.pstate.el == .el1) = true := by simpa using hb
  simp [State.numAccessible, State.el2Enabled_eq, he, hlow]

theorem State.numAccessible_of_not_guest (h : ¬(BelowEL2 s ∧ pseudoEL2Enabled s = true)) :
    s.numAccessible = some s.cfg.numCounters.val := by
  unfold State.numAccessible
  rw [if_neg]
  simpa [State.el2Enabled_eq, and_comm] using h

/-- Where R43 does not refuse the state, the number of accessible counters is the one the pseudocode writes out. -/
theorem State.numAccessible_of_not_hpmnRefused (h : ¬HpmnRefused s) :
    s.numAccessible = some (pseudoNumAccessible s) := by
  by_cases hg : BelowEL2 s ∧ pseudoEL2Enabled s = true
  · obtain ⟨hb, he⟩ := hg
    rw [State.numAccessible_of_guest hb he, pseudoNumAccessible_of_guest hb he]
    by_cases hle : s.ctl.mdcrEl2.hpmn.toNat ≤ s.cfg.numCounters.val
    · rw [if_pos hle, if_neg (Nat.not_lt.mpr hle)]
    · obtain ⟨n, hn⟩ := Option.isSome_iff_exists.mp (((not_hpmnRefused_iff s).mp h hb he).resolve_left hle)
      simp [hle, Nat.lt_of_not_le hle, hn]
  · rw [State.numAccessible_of_not_guest hg, pseudoNumAccessible_of_not_guest hg]

/-- Where R43 refuses the state there is no number of accessible counters. -/
theorem State.numAccessible_of_hpmnRefused (h : HpmnRefused s) : s.numAccessible = none := by
  obtain ⟨hb, he, hgt, hnone⟩ := h
  rw [State.numAccessible_of_guest hb he, if_neg (Nat.not_le.mpr hgt), hnone]
  rfl

theorem State.numAccessible_eq_none_iff : s.numAccessible = none ↔ HpmnRefused s :=
  ⟨fun h => by_contra fun hn => by simp [State.numAccessible_of_not_hpmnRefused hn] at h,
    State.numAccessible_of_hpmnRefused⟩

theorem State.numAccessible_eq_some_iff {n : Nat} :
    s.numAccessible = some n ↔ ¬HpmnRefused s ∧ pseudoNumAccessible s = n := by
  constructor
  · intro h
    have hn : ¬HpmnRefused s := fun hr => by simp [State.numAccessible_of_hpmnRefused hr] at h
    rw [State.numAccessible_of_not_hpmnRefused hn] at h
    exact ⟨hn, Option.some.inj h⟩
  · rintro ⟨hn, rfl⟩
    exact State.numAccessible_of_not_hpmnRefused hn

/-- The number the pseudocode writes out never exceeds the implemented counters (R43). -/
theorem pseudoNumAccessible_le : pseudoNumAccessible s ≤ s.cfg.numCounters.val := by
  by_cases hg : BelowEL2 s ∧ pseudoEL2Enabled s = true
  · rw [pseudoNumAccessible_of_guest hg.1 hg.2]
    split <;> omega
  · rw [pseudoNumAccessible_of_not_guest hg]

/-- An implemented counter is not accessible below EL2 with EL2 enabled only (R43). -/
theorem guest_of_inaccessible (hsel : s.ctl.pmselrSel.toNat < s.cfg.numCounters.val)
    (hacc : pseudoNumAccessible s ≤ s.ctl.pmselrSel.toNat) : BelowEL2 s ∧ pseudoEL2Enabled s = true := by
  by_contra hg
  rw [pseudoNumAccessible_of_not_guest hg] at hacc
  omega

end NumAccessible

/-- Arm D's condition past `EL2Enabled()`: the trap bit is set, the traps are on, and EL0 is not in a host (R112). -/
def State.fineTrapActs (s : State) (bit : Bool) : Bool :=
  !(decide (s.pstate.el = .el0) && s.elIsInHost) && s.fgtActive && bit

theorem State.fineTrapActs_eq_false_iff (s : State) (bit : Bool) :
    s.fineTrapActs bit = false ↔ FineTrapLetsThrough bit s := by
  simp only [State.fineTrapActs, State.fgtActive, State.elIsInHost, Bool.and_eq_false_iff, Bool.not_eq_false',
    Bool.and_eq_true, decide_eq_true_eq, Bool.or_eq_false_iff]
  tauto

theorem State.fineTrapActs_eq_true_iff (s : State) (bit : Bool) :
    s.fineTrapActs bit = true ↔ ¬FineTrapLetsThrough bit s := by
  rw [← State.fineTrapActs_eq_false_iff, Bool.not_eq_false]

theorem sddPriority_iff (s : State) : SddPriority s ↔ s.sddPrio = true ∧ s.pstate.el ≠ .el3 := by
  simp only [SddPriority, State.sddPrio, Bool.and_eq_true]
  tauto

theorem State.uenEnables_iff (s : State) : s.uenEnables = true ↔ UenActs s := by
  simp [State.uenEnables, UenActs]

section PmuAccess

variable {i : Instr} {q : State → PmuQuery} {e : PmuEffect}

/-- The instructions exempt from arms A and F are those that select the filter (R152). -/
theorem PmuAccess.exempt_iff (h : PmuAccess i q e) (s : State) : (q s).exempt = true ↔ SelectsFilter i s := by
  cases h with
  | counterRead t => simp [pmxevcntrReadQuery, SelectsFilter, isTypeInstr]
  | counterWrite t => simp [pmxevcntrWriteQuery, SelectsFilter, isTypeInstr]
  | typeRead t => simp [pmxevtyperReadQuery, SelectsFilter, isTypeInstr, State.sel_eq_31_iff]
  | typeWrite t => simp [pmxevtyperWriteQuery, SelectsFilter, isTypeInstr, State.sel_eq_31_iff]

/-- Arm C tests the enable of the statements (R118, R154). -/
theorem PmuAccess.el0Disabled_iff (h : PmuAccess i q e) (s : State) : (q s).el0Disabled = true ↔ ¬El0Enabled i s := by
  cases h with
  | counterRead t => simp [pmxevcntrReadQuery, El0Enabled, ← State.uenEnables_iff]; tauto
  | counterWrite t => simp [pmxevcntrWriteQuery, El0Enabled, ← State.uenEnables_iff]
  | typeRead t => simp [pmxevtyperReadQuery, El0Enabled, ← State.uenEnables_iff]
  | typeWrite t => simp [pmxevtyperWriteQuery, El0Enabled, ← State.uenEnables_iff]

/-- Arm D tests the bit that guards the instruction (R40, R41). -/
theorem PmuAccess.fineTrap_eq (h : PmuAccess i q e) (s : State) : (q s).fineTrap = fineTrapBit i s := by
  cases h <;> rfl

/-- A trap carries the syndrome of the instruction's access (R204). -/
theorem PmuAccess.iss_eq (h : PmuAccess i q e) : e.iss = syndrome (accessOf i) := by
  cases h <;> rfl

/-- A PMU instruction takes the check chain. -/
theorem pmuAccess_of_isPmuInstr {i : Instr} (h : isPmuInstr i = true) : ∃ q e, PmuAccess i q e := by
  obtain hp | ⟨t, rfl⟩ | ⟨t, rfl⟩ := pmuAccess_or_dspsr i
  · exact hp
  · cases h
  · cases h

end PmuAccess

end Sys2Proof.Machine
end

section
/-! SUPPORT. The check chain past arm A as one equation, and the arm behind each verdict (60_exceptions.md R210). -/

namespace Sys2Proof.Machine

/-- Arm A does not stop the access: the register is present, and SEL is exempt or implemented (R210 items 0 and 1). -/
abbrev PastArmA (q : PmuQuery) (s : State) : Prop :=
  s.cfg.featPMUv3 = true ∧ (q.exempt = true ∨ s.ctl.pmselrSel.toNat < s.cfg.numCounters.val)

/-- Arm F does not stop the access: SEL is exempt or accessible. -/
abbrev PastArmF (q : PmuQuery) (s : State) : Prop :=
  q.exempt = false → s.ctl.pmselrSel.toNat < pseudoNumAccessible s

theorem el_cases (e : EL) : e = .el0 ∨ e = .el1 ∨ e = .el2 ∨ e = .el3 := by
  cases e <;> simp

/-- Where the access lands when nothing stops it: arm H at EL0, else arm I. -/
def landing (q : PmuQuery) (s : State) : Verdict :=
  if s.pstate.el = .el0 ∧ q.el0Ignored = true then .ignored else .perform

/-- The chain past arm A: arm B, arm C, arms D to F below EL2, arm G, and the landing, with nothing tested at EL3. -/
theorem checkPmuAccess_pastArmA {q : PmuQuery} {s : State} (h : PastArmA q s) :
    checkPmuAccess q s =
      if s.pstate.el = .el3 then .perform
      else if s.sddPrio = true then .undefined
      else if s.pstate.el = .el0 ∧ q.el0Disabled = true then
        if pseudoEL2Enabled s = true ∧ s.ctl.hcrEl2.tge = true then .trap .el2 else .trap .el1
      else if BelowEL2 s then
        checkEL2Traps q (s.fineTrapActs q.fineTrap) s (checkEL3Trap s (landing q s))
      else checkEL3Trap s (landing q s) := by
  obtain ⟨hpmu, hsel⟩ := h
  have harmA : (!q.exempt && decide (s.cfg.numCounters.val ≤ s.sel)) = false := by
    obtain hq | hlt := hsel
    · simp [hq]
    · simp [State.sel_eq, Nat.not_le.mpr hlt]
  unfold checkPmuAccess
  simp only [hpmu, harmA, Bool.not_true, Bool.false_eq_true, if_false]
  obtain hel | hel | hel | hel := el_cases s.pstate.el
  · simp [hel, landing, BelowEL2, State.fineTrapActs, State.el2Enabled_eq]
  · simp [hel, landing, BelowEL2, State.fineTrapActs]
  · simp [hel, landing, BelowEL2]
  · simp [hel]

/-- The arm behind a verdict of the check chain, with the condition under which it decides. -/
inductive ArmHolds (q : PmuQuery) (s : State) : Verdict → Prop where
  | absent (h : s.cfg.featPMUv3 = false) : ArmHolds q s .undefined
  | unimplemented (hq : q.exempt = false) (hsel : s.cfg.numCounters.val ≤ s.ctl.pmselrSel.toNat)
      (hfgt : s.cfg.featFGT = true) : ArmHolds q s .undefined
  | unimplementedCu (hq : q.exempt = false) (hsel : s.cfg.numCounters.val ≤ s.ctl.pmselrSel.toNat)
      (hfgt : s.cfg.featFGT = false) : ArmHolds q s (.unpredictable .top)
  | sddPriority (h : SddPriority s) : ArmHolds q s .undefined
  | disabledTge (h0 : s.pstate.el = .el0) (hdis : q.el0Disabled = true) (he : pseudoEL2Enabled s = true)
      (htge : s.ctl.hcrEl2.tge = true) : ArmHolds q s (.trap .el2)
  | disabled (h0 : s.pstate.el = .el0) (hdis : q.el0Disabled = true)
      (htge : ¬(pseudoEL2Enabled s = true ∧ s.ctl.hcrEl2.tge = true)) : ArmHolds q s (.trap .el1)
  | guestTrap (hb : BelowEL2 s) (he : pseudoEL2Enabled s = true)
      (ht : ¬FineTrapLetsThrough q.fineTrap s ∨ s.ctl.mdcrEl2.tpm = true) : ArmHolds q s (.trap .el2)
  | hpmnRefused (h : HpmnRefused s) : ArmHolds q s .hpmnRefused
  | inaccessible (hb : BelowEL2 s) (he : pseudoEL2Enabled s = true) (hq : q.exempt = false)
      (hacc : pseudoNumAccessible s ≤ s.ctl.pmselrSel.toNat) (hfgt : s.cfg.featFGT = true) : ArmHolds q s (.trap .el2)
  | inaccessibleCu (hb : BelowEL2 s) (he : pseudoEL2Enabled s = true) (hq : q.exempt = false)
      (hacc : pseudoNumAccessible s ≤ s.ctl.pmselrSel.toNat) (hfgt : s.cfg.featFGT = false) :
      ArmHolds q s (.unpredictable .guest)
  | el3Undefined (h3 : s.pstate.el ≠ .el3) (hhave : s.cfg.haveEL3 = true) (htpm : s.ctl.mdcrEl3Tpm = true)
      (hsdd : s.halted = true ∧ s.ctl.edscrSdd = true) : ArmHolds q s .undefined
  | el3Trap (h3 : s.pstate.el ≠ .el3) (hhave : s.cfg.haveEL3 = true) (htpm : s.ctl.mdcrEl3Tpm = true)
      (hsdd : ¬(s.halted = true ∧ s.ctl.edscrSdd = true)) : ArmHolds q s (.trap .el3)
  | ignored (hA : PastArmA q s) (hacc : PastArmF q s) (h0 : s.pstate.el = .el0) (hig : q.el0Ignored = true) :
      ArmHolds q s .ignored
  | perform (hA : PastArmA q s) (hacc : PastArmF q s) (h0 : s.pstate.el = .el0 → q.el0Ignored = false) :
      ArmHolds q s .perform

theorem State.sddUndef_iff (s : State) : s.sddUndef = true ↔ s.halted = true ∧ s.ctl.edscrSdd = true := by
  simp [State.sddUndef]

/-- Where the number of accessible counters is the implemented one, arm F has nothing left to stop. -/
theorem PastArmA.pastArmF {q : PmuQuery} {s : State} (hA : PastArmA q s)
    (hg : ¬(BelowEL2 s ∧ pseudoEL2Enabled s = true)) : PastArmF q s := by
  intro hq
  rw [pseudoNumAccessible_of_not_guest hg]
  exact hA.2.resolve_left (by simp [hq])

theorem armHolds_landing {q : PmuQuery} {s : State} (hA : PastArmA q s) (hacc : PastArmF q s) :
    ArmHolds q s (landing q s) := by
  unfold landing
  split
  · rename_i h
    exact .ignored hA hacc h.1 h.2
  · rename_i h
    exact .perform hA hacc fun h0 => by simpa [h0] using h

theorem armHolds_checkEL3Trap {q : PmuQuery} {s : State} {r : Verdict} (h3 : s.pstate.el ≠ .el3)
    (hr : ArmHolds q s r) : ArmHolds q s (checkEL3Trap s r) := by
  unfold checkEL3Trap
  split
  · rename_i h
    obtain ⟨hhave, htpm⟩ := Bool.and_eq_true_iff.mp h
    split
    · rename_i hsdd
      exact .el3Undefined h3 hhave htpm ((State.sddUndef_iff s).mp hsdd)
    · rename_i hsdd
      exact .el3Trap h3 hhave htpm (mt (State.sddUndef_iff s).mpr hsdd)
  · exact hr

theorem armHolds_checkEL2Traps {q : PmuQuery} {s : State} {r : Verdict} (hA : PastArmA q s) (hb : BelowEL2 s)
    (hr : PastArmF q s → ArmHolds q s r) :
    ArmHolds q s (checkEL2Traps q (s.fineTrapActs q.fineTrap) s r) := by
  unfold checkEL2Traps
  rw [State.el2Enabled_eq]
  cases he : pseudoEL2Enabled s with
  | false => simpa using hr (hA.pastArmF fun hg => by simp [hg.2] at he)
  | true =>
    simp only [Bool.true_and]
    split
    · rename_i hfine
      exact .guestTrap hb he (.inl ((State.fineTrapActs_eq_true_iff s _).mp hfine))
    split
    · rename_i htpm
      exact .guestTrap hb he (.inr htpm)
    split
    · rename_i hq
      have hq : q.exempt = false := by simpa using hq
      split
      · rename_i hn
        exact .hpmnRefused (State.numAccessible_eq_none_iff.mp hn)
      · rename_i n hn
        obtain ⟨-, rfl⟩ := State.numAccessible_eq_some_iff.mp hn
        split
        · rename_i hacc
          split
          · rename_i hfgt
            exact .inaccessible hb he hq hacc hfgt
          · rename_i hfgt
            exact .inaccessibleCu hb he hq hacc (by simpa using hfgt)
        · rename_i hacc
          exact hr fun _ => Nat.lt_of_not_le hacc
    · rename_i hq
      exact hr fun hq' => by simp [hq'] at hq

/-- Every verdict of the chain is the one of an arm whose condition holds. -/
theorem armHolds_checkPmuAccess (q : PmuQuery) (s : State) : ArmHolds q s (checkPmuAccess q s) := by
  by_cases hpmu : s.cfg.featPMUv3 = true
  · by_cases hsel : q.exempt = true ∨ s.ctl.pmselrSel.toNat < s.cfg.numCounters.val
    · have hA : PastArmA q s := ⟨hpmu, hsel⟩
      rw [checkPmuAccess_pastArmA hA]
      split_ifs with h3 hprio hdis htge hb
      · exact .perform hA (hA.pastArmF fun hg => by simp [BelowEL2, h3] at hg) fun h0 => by simp [h0] at h3
      · exact .sddPriority ((sddPriority_iff s).mpr ⟨hprio, h3⟩)
      · exact .disabledTge hdis.1 hdis.2 htge.1 htge.2
      · exact .disabled hdis.1 hdis.2 htge
      · exact armHolds_checkEL2Traps hA hb fun hacc => armHolds_checkEL3Trap h3 (armHolds_landing hA hacc)
      · exact armHolds_checkEL3Trap h3 (armHolds_landing hA (hA.pastArmF fun hg => hb hg.1))
    · obtain ⟨hq, hle⟩ := not_or.mp hsel
      have hq : q.exempt = false := by simpa using hq
      have hle : s.cfg.numCounters.val ≤ s.ctl.pmselrSel.toNat := Nat.le_of_not_lt hle
      cases hfgt : s.cfg.featFGT with
      | true =>
        have hv : checkPmuAccess q s = .undefined := by simp [checkPmuAccess, hpmu, hq, State.sel_eq, hle, hfgt]
        exact hv ▸ .unimplemented hq hle hfgt
      | false =>
        have hv : checkPmuAccess q s = .unpredictable .top := by
          simp [checkPmuAccess, hpmu, hq, State.sel_eq, hle, hfgt]
        exact hv ▸ .unimplementedCu hq hle hfgt
  · have hpmu : s.cfg.featPMUv3 = false := by simpa using hpmu
    exact checkPmuAccess_of_no_pmuv3 hpmu q ▸ .absent hpmu

end Sys2Proof.Machine
end

section
/-! Where each arm sends an access: disabled, trapped, completed (40_pmxevcntr.md and 41_pmxevtyper.md, section 1 or 2). -/

namespace Sys2Proof.Machine

section Arms

variable {q : PmuQuery} {s : State}

theorem checkEL3Trap_of_letsThrough (h : ¬(s.cfg.haveEL3 = true ∧ s.ctl.mdcrEl3Tpm = true)) (r : Verdict) :
    checkEL3Trap s r = r := by
  rw [checkEL3Trap, if_neg (by simpa using h)]

/-- Arm G where MDCR_EL3.TPM is set. -/
theorem checkEL3Trap_of_tpm (h3 : s.cfg.haveEL3 = true) (ht : s.ctl.mdcrEl3Tpm = true) (r : Verdict) :
    checkEL3Trap s r = if s.halted = true ∧ s.ctl.edscrSdd = true then .undefined else .trap .el3 := by
  simp only [checkEL3Trap, h3, ht, Bool.and_self, if_true, State.sddUndef_iff]

/-- No arm of EL2 stops the access. -/
theorem checkEL2Traps_of_letsThrough {counted : Bool} (hb : BelowEL2 s) (h2 : EL2LetsThrough q.fineTrap counted s)
    (hq : q.exempt = false → counted = true) (r : Verdict) :
    checkEL2Traps q (s.fineTrapActs q.fineTrap) s r = r := by
  unfold checkEL2Traps
  rw [State.el2Enabled_eq]
  cases he : pseudoEL2Enabled s with
  | false => simp
  | true =>
    obtain ⟨hfine, htpm, hcount⟩ := h2 hb he
    rw [(State.fineTrapActs_eq_false_iff s q.fineTrap).mpr hfine, htpm]
    cases hex : q.exempt with
    | true => simp
    | false =>
      obtain ⟨hadm, hlt⟩ := hcount (hq hex)
      have hn := State.numAccessible_of_not_hpmnRefused ((not_hpmnRefused_iff s).mpr fun _ _ => hadm)
      simp [hn, State.sel_eq, Nat.not_le.mpr hlt]

/-- Arms D and E trap to EL2. -/
theorem checkEL2Traps_of_guestTrap (he : pseudoEL2Enabled s = true)
    (ht : ¬FineTrapLetsThrough q.fineTrap s ∨ s.ctl.mdcrEl2.tpm = true) (r : Verdict) :
    checkEL2Traps q (s.fineTrapActs q.fineTrap) s r = .trap .el2 := by
  unfold checkEL2Traps
  rw [State.el2Enabled_eq, he]
  rw [← State.fineTrapActs_eq_true_iff] at ht
  cases hfine : s.fineTrapActs q.fineTrap with
  | true => simp
  | false =>
    have htpm : s.ctl.mdcrEl2.tpm = true := by simpa [hfine] using ht
    simp [htpm]

/-- Arm F stops an access to a counter that is not accessible, unless arm D or E has trapped it. -/
theorem checkEL2Traps_of_inaccessible (he : pseudoEL2Enabled s = true) (hr : ¬HpmnRefused s) (hq : q.exempt = false)
    (hacc : pseudoNumAccessible s ≤ s.ctl.pmselrSel.toNat) (r : Verdict) :
    checkEL2Traps q (s.fineTrapActs q.fineTrap) s r =
      if s.cfg.featFGT = true ∨ s.ctl.mdcrEl2.tpm = true then .trap .el2 else .unpredictable .guest := by
  have hn := State.numAccessible_of_not_hpmnRefused hr
  unfold checkEL2Traps
  rw [State.el2Enabled_eq, he]
  cases hfgt : s.cfg.featFGT with
  | true => simp [hq, hn, State.sel_eq, hacc]
  | false =>
    have hfine : s.fineTrapActs q.fineTrap = false := by simp [State.fineTrapActs, State.fgtActive, hfgt]
    cases htpm : s.ctl.mdcrEl2.tpm with
    | true => simp
    | false => simp [hfine, hq, hn, State.sel_eq, hacc]

/-- What stands between arm A and the EL2 arms lets the access pass: arm B, and arm C at EL0. -/
structure PastArmC (q : PmuQuery) (s : State) : Prop where
  pastArmA : PastArmA q s
  notPrio : ¬SddPriority s
  enabled : s.pstate.el = .el0 → q.el0Disabled = false

theorem checkPmuAccess_guest (h : PastArmC q s) (hb : BelowEL2 s) :
    checkPmuAccess q s = checkEL2Traps q (s.fineTrapActs q.fineTrap) s (checkEL3Trap s (landing q s)) := by
  have h3 : s.pstate.el ≠ .el3 := by
    intro h3
    simp [BelowEL2, h3] at hb
  have hprio : ¬s.sddPrio = true := fun hp => h.notPrio ((sddPriority_iff s).mpr ⟨hp, h3⟩)
  have hdis : ¬(s.pstate.el = .el0 ∧ q.el0Disabled = true) := fun ⟨h0, hd⟩ => by simp [h.enabled h0] at hd
  rw [checkPmuAccess_pastArmA h.pastArmA, if_neg h3, if_neg hprio, if_neg hdis, if_pos hb]

theorem checkPmuAccess_el2 (h : PastArmC q s) (h2 : s.pstate.el = .el2) :
    checkPmuAccess q s = checkEL3Trap s (landing q s) := by
  have hprio : ¬s.sddPrio = true := fun hp => h.notPrio ((sddPriority_iff s).mpr ⟨hp, by simp [h2]⟩)
  rw [checkPmuAccess_pastArmA h.pastArmA]
  simp [h2, hprio, BelowEL2]

/-- With no control of EL2 acting, arm G is what is left below EL3. -/
theorem checkPmuAccess_of_el2LetsThrough {counted : Bool} (h : PastArmC q s) (h3 : s.pstate.el ≠ .el3)
    (h2 : EL2LetsThrough q.fineTrap counted s) (hq : q.exempt = false → counted = true) :
    checkPmuAccess q s = checkEL3Trap s (landing q s) := by
  by_cases hb : BelowEL2 s
  · rw [checkPmuAccess_guest h hb, checkEL2Traps_of_letsThrough hb h2 hq]
  · have hel2 : s.pstate.el = .el2 := by
      obtain hel | hel | hel | hel := el_cases s.pstate.el <;> simp_all [BelowEL2]
    exact checkPmuAccess_el2 h hel2

end Arms

section Outcomes

variable {i : Instr} {q : State → PmuQuery} {e : PmuEffect} {s : State}

/-- SEL names a register the instruction reaches: an implemented counter's, or the filter (R152). -/
abbrev SelectsRegister (i : Instr) (s : State) : Prop :=
  SelectsFilter i s ∨ s.ctl.pmselrSel.toNat < s.cfg.numCounters.val

theorem PmuAccess.pastArmA (h : PmuAccess i q e) (hpmu : s.cfg.featPMUv3 = true) (hsel : SelectsRegister i s) :
    PastArmA (q s) s :=
  ⟨hpmu, hsel.imp_left (h.exempt_iff s).mpr⟩

theorem PmuAccess.not_exempt (h : PmuAccess i q e) (hf : ¬SelectsFilter i s) : (q s).exempt = false := by
  rw [← h.exempt_iff] at hf
  simpa using hf

theorem PmuAccess.not_el0Disabled (h : PmuAccess i q e) (hen : El0Enabled i s) : (q s).el0Disabled = false := by
  have hn : ¬(q s).el0Disabled = true := fun hd => (h.el0Disabled_iff s).mp hd hen
  simpa using hn

theorem PmuAccess.pastArmC (h : PmuAccess i q e) (hpmu : s.cfg.featPMUv3 = true) (hsel : SelectsRegister i s)
    (hen : s.pstate.el = .el0 → El0Enabled i s) (hprio : ¬SddPriority s) : PastArmC (q s) s :=
  ⟨h.pastArmA hpmu hsel, hprio, fun h0 => h.not_el0Disabled (hen h0)⟩

/-- A trap verdict is a trap with code 0x18 and the access's syndrome. -/
theorem PmuAccess.exec_of_trap (h : PmuAccess i q e) {target : EL} (hv : checkPmuAccess (q s) s = .trap target) :
    exec i s = .fault (.systemAccessTrap target 0x18 (syndrome (accessOf i))) := by
  rw [h.exec_eq, hv, ← h.iss_eq]
  rfl

theorem PmuAccess.exec_of_undefined (h : PmuAccess i q e) (hv : checkPmuAccess (q s) s = .undefined) :
    exec i s = .fault .undefined := by
  rw [h.exec_eq, hv]
  rfl

/-- Arm C: a disabled EL0 access is trapped (R118, R154). -/
theorem PmuAccess.exec_of_disabled (h : PmuAccess i q e) (hA : PastArmA (q s) s) (h0 : s.pstate.el = .el0)
    (hprio : ¬SddPriority s) (hdis : ¬El0Enabled i s) :
    exec i s = .fault (.systemAccessTrap
      (if pseudoEL2Enabled s = true ∧ s.ctl.hcrEl2.tge = true then .el2 else .el1) 0x18 (syndrome (accessOf i))) := by
  have h3 : s.pstate.el ≠ .el3 := by simp [h0]
  have hp : ¬s.sddPrio = true := fun hp => hprio ((sddPriority_iff s).mpr ⟨hp, h3⟩)
  apply h.exec_of_trap
  rw [checkPmuAccess_pastArmA hA, if_neg h3, if_neg hp, if_pos ⟨h0, (h.el0Disabled_iff s).mpr hdis⟩]
  split <;> rfl

/-- Settles O21: arm C is the first arm whose condition holds. -/
theorem disabledEl0AccessTraps : Obligations.DisabledEl0AccessTraps := by
  unfold Obligations.DisabledEl0AccessTraps
  intro i s hi hpmu h0 hsel hprio hdis
  obtain ⟨q, e, h⟩ := pmuAccess_of_isPmuInstr hi
  exact h.exec_of_disabled (h.pastArmA hpmu hsel) h0 hprio hdis

/-- The count of EL2LetsThrough is asked for every access but the exempt one. -/
theorem PmuAccess.counted_of_not_exempt (h : PmuAccess i q e) (hq : (q s).exempt = false) :
    (!(isTypeInstr i && decide (s.ctl.pmselrSel = 31))) = true := by
  have hf : ¬SelectsFilter i s := fun hf => by simp [(h.exempt_iff s).mpr hf] at hq
  simpa [SelectsFilter, imp_iff_not_or] using hf

/-- Settles O22: where no earlier arm holds arm G decides, and where arm B holds it decides the same. -/
theorem mdcrEl3TrapsWhatNothingEarlierStops : Obligations.MdcrEl3TrapsWhatNothingEarlierStops := by
  unfold Obligations.MdcrEl3TrapsWhatNothingEarlierStops
  intro i s hi hpmu h3 hsel hen h2 hhave htpm
  obtain ⟨q, e, h⟩ := pmuAccess_of_isPmuInstr hi
  by_cases hprio : SddPriority s
  · have hv : checkPmuAccess (q s) s = .undefined := by
      rw [checkPmuAccess_pastArmA (h.pastArmA hpmu hsel), if_neg h3, if_pos ((sddPriority_iff s).mp hprio).1]
    obtain ⟨hhalt, -, hsdd, -⟩ := hprio
    rw [h.exec_of_undefined hv, if_pos ⟨hhalt, hsdd⟩]
  · rw [← h.fineTrap_eq] at h2
    have hv := checkPmuAccess_of_el2LetsThrough (h.pastArmC hpmu hsel hen hprio) h3 h2 h.counted_of_not_exempt
    rw [checkEL3Trap_of_tpm hhave htpm] at hv
    split
    · rename_i hsdd
      exact h.exec_of_undefined (hv.trans (if_pos hsdd))
    · rename_i hsdd
      exact h.exec_of_trap (hv.trans (if_neg hsdd))

/-- Settles O23: arms D and E. -/
theorem el2ControlsTrapGuestAccesses : Obligations.El2ControlsTrapGuestAccesses := by
  unfold Obligations.El2ControlsTrapGuestAccesses
  intro i s hi hpmu hb hsel hen hprio he ht
  obtain ⟨q, e, h⟩ := pmuAccess_of_isPmuInstr hi
  rw [← h.fineTrap_eq] at ht
  apply h.exec_of_trap
  rw [checkPmuAccess_guest (h.pastArmC hpmu hsel hen hprio) hb, checkEL2Traps_of_guestTrap he ht]

/-- Arm A: an unimplemented counter is Undefined with FEAT_FGT, and CONSTRAINED UNPREDICTABLE without. -/
theorem checkPmuAccess_unimplemented {q : PmuQuery} (hpmu : s.cfg.featPMUv3 = true) (hq : q.exempt = false)
    (hsel : s.cfg.numCounters.val ≤ s.ctl.pmselrSel.toNat) :
    checkPmuAccess q s = if s.cfg.featFGT then .undefined else .unpredictable .top := by
  simp [checkPmuAccess, hpmu, hq, State.sel_eq, hsel]

/-- Arm F, for any access past arm C. -/
theorem checkPmuAccess_inaccessible {q : PmuQuery} (h : PastArmC q s) (hq : q.exempt = false) (hr : ¬HpmnRefused s)
    (hsel : s.ctl.pmselrSel.toNat < s.cfg.numCounters.val)
    (hacc : pseudoNumAccessible s ≤ s.ctl.pmselrSel.toNat) :
    checkPmuAccess q s =
      if s.cfg.featFGT = true ∨ s.ctl.mdcrEl2.tpm = true then .trap .el2 else .unpredictable .guest := by
  obtain ⟨hb, he⟩ := guest_of_inaccessible hsel hacc
  rw [checkPmuAccess_guest h hb, checkEL2Traps_of_inaccessible he hr hq hacc]

/-- Settles O24: arm A precedes arm C (C7), and arm F is met below EL2 with EL2 enabled only. -/
theorem fgtDefinesInaccessibleCounterAccess : Obligations.FgtDefinesInaccessibleCounterAccess := by
  unfold Obligations.FgtDefinesInaccessibleCounterAccess
  intro i s hi htype hpmu hfgt
  obtain ⟨q, e, h⟩ := pmuAccess_of_isPmuInstr hi
  have hq : (q s).exempt = false := h.not_exempt (by simp [SelectsFilter, htype])
  constructor
  · intro hsel
    exact h.exec_of_undefined (by rw [checkPmuAccess_unimplemented hpmu hq hsel, if_pos hfgt])
  · intro hsel hacc
    obtain ⟨hb, he⟩ := guest_of_inaccessible hsel hacc
    refine ⟨hb, he, fun hr hen hprio => h.exec_of_trap ?_⟩
    rw [checkPmuAccess_inaccessible (h.pastArmC hpmu (.inr hsel) hen hprio) hq hr hsel hacc, if_pos (.inl hfgt)]

end Outcomes

end Sys2Proof.Machine
end

section
/-! An access that nothing stops completes (40_pmxevcntr.md section 2, 41_pmxevtyper.md section 1). -/

namespace Sys2Proof.Machine

variable {i : Instr} {q : State → PmuQuery} {e : PmuEffect} {s : State}

/-- With MDCR_EL3.TPM letting the access through, arm B does not hold. -/
theorem not_sddPriority_of_letsThrough (h : EL3LetsThrough s) : ¬SddPriority s :=
  fun ⟨_, hhave, _, _, htpm, h3⟩ => h h3 ⟨hhave, htpm⟩

/-- An access that no arm stops lands in arm H or arm I. -/
theorem PmuAccess.checkPmuAccess_of_letsThrough {counted : Bool} (h : PmuAccess i q e)
    (hpmu : s.cfg.featPMUv3 = true) (hsel : SelectsRegister i s) (hen : s.pstate.el = .el0 → El0Enabled i s)
    (h3 : EL3LetsThrough s) (h2 : EL2LetsThrough (fineTrapBit i s) counted s)
    (hcount : ¬SelectsFilter i s → counted = true) : checkPmuAccess (q s) s = landing (q s) s := by
  have hC := h.pastArmC hpmu hsel hen (not_sddPriority_of_letsThrough h3)
  by_cases hel : s.pstate.el = .el3
  · rw [checkPmuAccess_pastArmA hC.pastArmA, if_pos hel, landing, if_neg (by simp [hel])]
  · rw [← h.fineTrap_eq] at h2
    have hcount' : (q s).exempt = false → counted = true := fun hq =>
      hcount fun hf => by simp [(h.exempt_iff s).mpr hf] at hq
    rw [checkPmuAccess_of_el2LetsThrough hC hel h2 hcount', checkEL3Trap_of_letsThrough (h3 hel)]

/-- The outcome of an access that no arm stops. -/
theorem PmuAccess.exec_completes {counted : Bool} (h : PmuAccess i q e)
    (hpmu : s.cfg.featPMUv3 = true) (hsel : SelectsRegister i s) (hen : s.pstate.el = .el0 → El0Enabled i s)
    (h3 : EL3LetsThrough s) (h2 : EL2LetsThrough (fineTrapBit i s) counted s)
    (hcount : ¬SelectsFilter i s → counted = true) :
    exec i s = .next (if s.pstate.el = .el0 ∧ (q s).el0Ignored = true then e.ignored s
      else e.perform s.sel s).advance := by
  rw [h.exec_eq, h.checkPmuAccess_of_letsThrough hpmu hsel hen h3 h2 hcount, landing]
  split <;> rfl

/-- Settles O11: arm H answers 0, arm I the counter. -/
theorem mrsPmxevcntrCompletes : Obligations.MrsPmxevcntrCompletes := by
  unfold Obligations.MrsPmxevcntrCompletes
  intro t s hpmu hsel hen h3 h2
  rw [(PmuAccess.counterRead t).exec_completes hpmu (.inr hsel) hen h3 h2 fun _ => rfl]
  have hmask : (pmxevcntrReadQuery s).el0Ignored = true
      ↔ UenActs s ∧ s.ctl.pmuacr.p.getLsbD s.ctl.pmselrSel.toNat = false := by
    simp [pmxevcntrReadQuery, State.uenEnables, State.pmuacrP, State.sel_eq]
  simp only [hmask, visibleCounter]
  split <;> rfl

/-- Settles O12: arm H writes nothing, arm I the counter. -/
theorem msrPmxevcntrCompletes : Obligations.MsrPmxevcntrCompletes := by
  unfold Obligations.MsrPmxevcntrCompletes
  intro t s hpmu hsel hen h3 h2
  rw [(PmuAccess.counterWrite t).exec_completes hpmu (.inr hsel) hen h3 h2 fun _ => rfl]
  have hmask : (pmxevcntrWriteQuery s).el0Ignored = true
      ↔ UenActs s ∧ (s.ctl.pmuacr.p.getLsbD s.ctl.pmselrSel.toNat = false ∨ s.ctl.pmuserenr.er = true) := by
    simp [pmxevcntrWriteQuery, State.uenEnables, State.pmuacrP, State.sel_eq]
  simp only [hmask, counterWritten]
  split <;> rfl

theorem State.typeMaskBit_iff (s : State) : s.typeMaskBit = true ↔ TypeUnmasked s := by
  unfold State.typeMaskBit TypeUnmasked
  by_cases h : s.ctl.pmselrSel = 31
  · simp [(State.sel_eq_31_iff s).mpr h, h]
  · rw [if_neg h, if_neg (mt (State.sel_eq_31_iff s).mp h)]
    rfl

theorem State.typeReadOnlyBit_iff (s : State) : s.typeReadOnlyBit = true ↔ TypeReadOnly s := by
  unfold State.typeReadOnlyBit TypeReadOnly
  by_cases h : s.ctl.pmselrSel = 31
  · simp [(State.sel_eq_31_iff s).mpr h, h]
  · rw [if_neg h, if_neg (mt (State.sel_eq_31_iff s).mp h)]

/-- PMXEVTYPER_EL0 at the selector, in the statements' words. -/
theorem State.readType_sel (s : State) :
    s.readType s.sel = if s.ctl.pmselrSel = 31 then s.pmccfiltr else s.readEvtyper s.ctl.pmselrSel.toNat := by
  unfold State.readType
  simp only [State.sel_eq_31_iff]
  rfl

theorem State.writeType_sel (s : State) (v : Word) :
    s.writeType s.sel v = if s.ctl.pmselrSel = 31 then s.setPmccfiltr (v &&& pmccfiltrKeep s.cfg)
      else s.setEvtyper s.ctl.pmselrSel.toNat v := by
  unfold State.writeType
  simp only [State.sel_eq_31_iff]
  rfl

/-- The selector of a type access in the form of SelectsRegister. -/
theorem selectsRegister_of_type (hi : isTypeInstr i = true)
    (h : s.ctl.pmselrSel = 31 ∨ s.ctl.pmselrSel.toNat < s.cfg.numCounters.val) : SelectsRegister i s :=
  h.imp_left fun h31 => ⟨hi, h31⟩

/-- For a type access the count is asked where SEL is not 31. -/
theorem ne_31_of_not_selectsFilter (hi : isTypeInstr i = true) (h : ¬SelectsFilter i s) :
    decide (s.ctl.pmselrSel ≠ 31) = true :=
  decide_eq_true fun h31 => h ⟨hi, h31⟩

/-- Settles O13: arm H answers 0, arm I31 the filter, arm I the type register. -/
theorem mrsPmxevtyperCompletes : Obligations.MrsPmxevtyperCompletes := by
  unfold Obligations.MrsPmxevtyperCompletes
  intro t s hpmu hsel hen h3 h2
  rw [(PmuAccess.typeRead t).exec_completes hpmu (selectsRegister_of_type rfl hsel) hen h3 h2
    (ne_31_of_not_selectsFilter rfl)]
  have hmask : (pmxevtyperReadQuery s).el0Ignored = true ↔ UenActs s ∧ ¬TypeUnmasked s := by
    rw [← State.typeMaskBit_iff, ← State.uenEnables_iff]
    simp [pmxevtyperReadQuery]
  simp only [hmask, visibleType, ← State.readType_sel]
  split <;> rfl

/-- Settles O14: arm H writes nothing, arm I31 the filter, arm I the type register. -/
theorem msrPmxevtyperCompletes : Obligations.MsrPmxevtyperCompletes := by
  unfold Obligations.MsrPmxevtyperCompletes
  intro t s hpmu hsel hen h3 h2
  rw [(PmuAccess.typeWrite t).exec_completes hpmu (selectsRegister_of_type rfl hsel) hen h3 h2
    (ne_31_of_not_selectsFilter rfl)]
  have hmask : (pmxevtyperWriteQuery s).el0Ignored = true ↔ UenActs s ∧ (¬TypeUnmasked s ∨ TypeReadOnly s) := by
    rw [← State.typeMaskBit_iff, ← State.typeReadOnlyBit_iff, ← State.uenEnables_iff]
    simp [pmxevtyperWriteQuery]
  simp only [hmask, typeWritten, ← State.writeType_sel]
  split <;> rfl

/-- Settles O32: the two completions at EL0 with UEN. -/
theorem maskedCounterReadsZeroAndIgnoresWrites : Obligations.MaskedCounterReadsZeroAndIgnoresWrites := by
  unfold Obligations.MaskedCounterReadsZeroAndIgnoresWrites
  intro t s hpmu huen h0 hsel h3
  constructor
  · intro h2
    rw [mrsPmxevcntrCompletes t s hpmu hsel (fun _ => .inr (.inr huen)) h3 h2]
    cases hp : s.ctl.pmuacr.p.getLsbD s.ctl.pmselrSel.toNat with
    | false => rw [visibleCounter, if_pos ⟨h0, huen, hp⟩]; rfl
    | true => simp [visibleCounter, hp]
  · intro h2 hmask
    rw [msrPmxevcntrCompletes t s hpmu hsel (fun _ => .inr huen) h3 h2, counterWritten, if_pos ⟨h0, huen, hmask⟩]

/-- SEL 31 is no event counter: there are at most 31 (D26). -/
theorem numCounters_le_sel_31 (h : s.ctl.pmselrSel = 31) : s.cfg.numCounters.val ≤ s.ctl.pmselrSel.toNat := by
  rw [h]
  exact numCounters_le s.cfg

/-- Settles O34: arm A stops the counter window, and SEL 31 of the type window is exempt from it. -/
theorem selector31ReachesTheFilterNotACounter : Obligations.Selector31ReachesTheFilterNotACounter := by
  unfold Obligations.Selector31ReachesTheFilterNotACounter
  intro t s hpmu hfgt h31
  have hundef : ∀ i, isPmuInstr i = true → isTypeInstr i = false → exec i s = .fault .undefined :=
    fun i hi htype => (fgtDefinesInaccessibleCounterAccess i s hi htype hpmu hfgt).1 (numCounters_le_sel_31 h31)
  have hcount : decide (s.ctl.pmselrSel ≠ 31) = false := by simp [h31]
  refine ⟨hundef _ rfl rfl, hundef _ rfl rfl, fun h0 h3 h2 => ?_, fun h0 h3 h2 => ?_⟩
  · rw [mrsPmxevtyperCompletes t s hpmu (.inl h31) (absurd · h0) h3 (hcount ▸ h2), visibleType]
    simp [h0, h31]
  · rw [msrPmxevtyperCompletes t s hpmu (.inl h31) (absurd · h0) h3 (hcount ▸ h2), typeWritten]
    simp [h0, h31]

end Sys2Proof.Machine
end

section
/-! The meanings over the shared check chain are the pseudocodes written out (40_pmxevcntr.md R110, R111,
41_pmxevtyper.md R150, R151). The four pseudocodes are one at four queries and effects. -/

namespace Sys2Proof.Machine

/-- Arm G as it is written out, then `rest`. -/
def pseudoArmG (e : PmuEffect) (s : State) (rest : Result) : Result :=
  if s.cfg.haveEL3 && s.ctl.mdcrEl3Tpm then
    if s.halted && s.ctl.edscrSdd then .fault .undefined else .fault (.systemAccessTrap .el3 0x18 e.iss)
  else rest

/-- Arms D, E and F as they are written out, then `rest`; `fine` is arm D's condition past `EL2Enabled()`. -/
def pseudoArmsDEF (q : PmuQuery) (fine : Bool) (e : PmuEffect) (s : State) (rest : Result) : Result :=
  if pseudoEL2Enabled s && fine then .fault (.systemAccessTrap .el2 0x18 e.iss)
  else if pseudoEL2Enabled s && s.ctl.mdcrEl2.tpm then .fault (.systemAccessTrap .el2 0x18 e.iss)
  else if pseudoEL2Enabled s && !q.exempt && decide (s.ctl.pmselrSel.toNat ≥ pseudoNumAccessible s) then
    if !s.cfg.featFGT then constrainedUnpredictable (Config.cuChoice s.draws) .guest e s
    else .fault (.systemAccessTrap .el2 0x18 e.iss)
  else rest

/-- The written-out pseudocode of a PMU access at a query and an effect, level by level. -/
def pseudoPmuAccess (q : PmuQuery) (e : PmuEffect) (s : State) : Result :=
  if !s.cfg.featPMUv3 then .fault .undefined
  else if !q.exempt && decide (s.ctl.pmselrSel.toNat ≥ s.cfg.numCounters.val) then
    if s.cfg.featFGT then .fault .undefined else constrainedUnpredictable (Config.cuChoice s.draws) .top e s
  else if s.pstate.el = .el0 then
    if s.sddPrio then .fault .undefined
    else if q.el0Disabled then
      if pseudoEL2Enabled s && s.ctl.hcrEl2.tge then .fault (.systemAccessTrap .el2 0x18 e.iss)
      else .fault (.systemAccessTrap .el1 0x18 e.iss)
    else
      pseudoArmsDEF q (!s.elIsInHost && s.fgtActive && q.fineTrap) e s
        (pseudoArmG e s (if q.el0Ignored then .next (e.ignored s).advance else .next (e.perform s.sel s).advance))
  else if s.pstate.el = .el1 then
    if s.sddPrio then .fault .undefined
    else pseudoArmsDEF q (s.fgtActive && q.fineTrap) e s (pseudoArmG e s (.next (e.perform s.sel s).advance))
  else if s.pstate.el = .el2 then
    if s.sddPrio then .fault .undefined else pseudoArmG e s (.next (e.perform s.sel s).advance)
  else .next (e.perform s.sel s).advance

section

variable {q : PmuQuery} {e : PmuEffect} {s : State}

theorem finishPmuAccess_checkEL3Trap (r : Verdict) :
    finishPmuAccess e (checkEL3Trap s r) s = pseudoArmG e s (finishPmuAccess e r s) := by
  unfold checkEL3Trap pseudoArmG State.sddUndef
  split
  · split <;> rfl
  · rfl

theorem finishPmuAccess_checkEL2Traps (hr : ¬HpmnRefused s) (fine : Bool) (r : Verdict) :
    finishPmuAccess e (checkEL2Traps q fine s r) s = pseudoArmsDEF q fine e s (finishPmuAccess e r s) := by
  unfold checkEL2Traps pseudoArmsDEF
  rw [State.el2Enabled_eq, State.numAccessible_of_not_hpmnRefused hr, State.sel_eq]
  split
  · rfl
  split
  · rfl
  by_cases hq : (pseudoEL2Enabled s && !q.exempt) = true
  · rw [if_pos hq, hq, Bool.true_and]
    by_cases hacc : pseudoNumAccessible s ≤ s.ctl.pmselrSel.toNat
    · cases hfgt : s.cfg.featFGT <;> simp [hacc] <;> rfl
    · simp [hacc]
  · simp [hq]

/-- The chain's outcome is the written-out one, arm for arm. -/
theorem finishPmuAccess_checkPmuAccess (hr : ¬HpmnRefused s) :
    finishPmuAccess e (checkPmuAccess q s) s = pseudoPmuAccess q e s := by
  unfold checkPmuAccess pseudoPmuAccess
  rw [State.el2Enabled_eq]
  split
  · rfl
  rw [State.sel_eq]
  split
  · split <;> rfl
  obtain hel | hel | hel | hel := el_cases s.pstate.el
  · simp only [hel, if_true]
    split
    · rfl
    split
    · split <;> rfl
    rw [finishPmuAccess_checkEL2Traps hr, finishPmuAccess_checkEL3Trap]
    split <;> rfl
  · simp only [hel, if_true]
    split
    · rfl
    rw [finishPmuAccess_checkEL2Traps hr, finishPmuAccess_checkEL3Trap]
    rfl
  · simp only [hel, if_true]
    split
    · rfl
    rw [finishPmuAccess_checkEL3Trap]
    rfl
  · simp only [hel]
    rfl

end

theorem PmuAccess.exec_eq_pseudo {i : Instr} {q : State → PmuQuery} {e : PmuEffect} (h : PmuAccess i q e) {s : State}
    (hr : BelowEL2 s → pseudoEL2Enabled s = true → HpmnAdmitted s) : exec i s = pseudoPmuAccess (q s) e s := by
  rw [h.exec_eq, finishPmuAccess_checkPmuAccess ((not_hpmnRefused_iff s).mpr hr)]

theorem pseudoMrsPmxevcntr_eq (t : Nat) (s : State) :
    pseudoMrsPmxevcntr t s = pseudoPmuAccess (pmxevcntrReadQuery s) (pmxevcntrReadEffect t) s := by
  simp only [pseudoMrsPmxevcntr, pseudoPmuAccess, pseudoArmsDEF, pseudoArmG, pmxevcntrReadQuery, State.sddPrio,
    State.fgtActive, State.elIsInHost, State.uenEnables, State.pmuacrP, State.sel_eq, Bool.not_false, Bool.true_and,
    Bool.and_true, Bool.and_assoc]
  rfl

theorem pseudoMsrPmxevcntr_eq (t : Nat) (s : State) :
    pseudoMsrPmxevcntr t s = pseudoPmuAccess (pmxevcntrWriteQuery s) (pmxevcntrWriteEffect t) s := by
  simp only [pseudoMsrPmxevcntr, pseudoPmuAccess, pseudoArmsDEF, pseudoArmG, pmxevcntrWriteQuery, State.sddPrio,
    State.fgtActive, State.elIsInHost, State.uenEnables, State.pmuacrP, State.sel_eq, Bool.not_false, Bool.true_and,
    Bool.and_true, Bool.and_assoc]
  rfl

/-- Arms I31 and I of the read are one read at the selector (R152). -/
theorem next_readType_sel (t : Nat) (s : State) :
    (if s.ctl.pmselrSel.toNat = 31 then .next (s.setX t s.pmccfiltr).advance
      else .next (s.setX t (s.readEvtyper s.ctl.pmselrSel.toNat)).advance : Result)
      = .next ((pmxevtyperReadEffect t).perform s.sel s).advance := by
  simp only [pmxevtyperReadEffect, State.readType, State.sel_eq]
  split <;> rfl

/-- Arms I31 and I of the write are one write at the selector (R152). -/
theorem next_writeType_sel (t : Nat) (s : State) :
    (if s.ctl.pmselrSel.toNat = 31 then .next (s.writePmccfiltr (s.readX t)).advance
      else .next (s.setEvtyper s.ctl.pmselrSel.toNat (s.readX t)).advance : Result)
      = .next ((pmxevtyperWriteEffect t).perform s.sel s).advance := by
  simp only [pmxevtyperWriteEffect, State.writeType, State.sel_eq]
  split <;> rfl

theorem State.not_typeMaskBit_eq (s : State) :
    (!s.typeMaskBit) = ((!decide (s.ctl.pmselrSel.toNat = 31) && !s.ctl.pmuacr.p.getLsbD s.ctl.pmselrSel.toNat)
      || (decide (s.ctl.pmselrSel.toNat = 31) && !s.ctl.pmuacr.c)) := by
  rw [State.typeMaskBit, State.pmuacrP, State.sel_eq]
  split <;> simp [*]

theorem State.typeIgnoredBit_eq (s : State) :
    (!s.typeMaskBit || s.typeReadOnlyBit)
      = ((!decide (s.ctl.pmselrSel.toNat = 31) && (!s.ctl.pmuacr.p.getLsbD s.ctl.pmselrSel.toNat || s.ctl.pmuserenr.er))
        || (decide (s.ctl.pmselrSel.toNat = 31) && (!s.ctl.pmuacr.c || s.ctl.pmuserenr.cr))) := by
  rw [State.typeMaskBit, State.typeReadOnlyBit, State.pmuacrP, State.sel_eq]
  split <;> simp [*]

theorem pseudoMrsPmxevtyper_eq (t : Nat) (s : State) :
    pseudoMrsPmxevtyper t s = pseudoPmuAccess (pmxevtyperReadQuery s) (pmxevtyperReadEffect t) s := by
  simp only [pseudoMrsPmxevtyper, next_readType_sel]
  simp only [pseudoPmuAccess, pseudoArmsDEF, pseudoArmG, pmxevtyperReadQuery, State.not_typeMaskBit_eq, State.sddPrio,
    State.fgtActive, State.elIsInHost, State.uenEnables, State.sel_eq, Bool.not_and, Bool.and_assoc]
  rfl

theorem pseudoMsrPmxevtyper_eq (t : Nat) (s : State) :
    pseudoMsrPmxevtyper t s = pseudoPmuAccess (pmxevtyperWriteQuery s) (pmxevtyperWriteEffect t) s := by
  simp only [pseudoMsrPmxevtyper, next_writeType_sel]
  simp only [pseudoPmuAccess, pseudoArmsDEF, pseudoArmG, pmxevtyperWriteQuery, State.typeIgnoredBit_eq, State.sddPrio,
    State.fgtActive, State.elIsInHost, State.uenEnables, State.sel_eq, Bool.not_and, Bool.and_assoc]
  rfl

/-- Settles O7: the chain distributes over the arms, and the query and effect are the arms of R110. -/
theorem mrsPmxevcntrIsItsPseudocode : Obligations.MrsPmxevcntrIsItsPseudocode := by
  unfold Obligations.MrsPmxevcntrIsItsPseudocode
  intro t s hr
  rw [(PmuAccess.counterRead t).exec_eq_pseudo hr, pseudoMrsPmxevcntr_eq]

/-- Settles O8, in the same way with the arms of R111. -/
theorem msrPmxevcntrIsItsPseudocode : Obligations.MsrPmxevcntrIsItsPseudocode := by
  unfold Obligations.MsrPmxevcntrIsItsPseudocode
  intro t s hr
  rw [(PmuAccess.counterWrite t).exec_eq_pseudo hr, pseudoMsrPmxevcntr_eq]

/-- Settles O9: with the arms of R150, SEL 31 among them. -/
theorem mrsPmxevtyperIsItsPseudocode : Obligations.MrsPmxevtyperIsItsPseudocode := by
  unfold Obligations.MrsPmxevtyperIsItsPseudocode
  intro t s hr
  rw [(PmuAccess.typeRead t).exec_eq_pseudo hr, pseudoMrsPmxevtyper_eq]

/-- Settles O10: with the arms of R151, SEL 31 among them. -/
theorem msrPmxevtyperIsItsPseudocode : Obligations.MsrPmxevtyperIsItsPseudocode := by
  unfold Obligations.MsrPmxevtyperIsItsPseudocode
  intro t s hr
  rw [(PmuAccess.typeWrite t).exec_eq_pseudo hr, pseudoMsrPmxevtyper_eq]

end Sys2Proof.Machine
end

section
/-! What a fault or a refusal of an instruction comes from (60_exceptions.md section 1). -/

namespace Sys2Proof.Machine

section Inversion

variable {e : PmuEffect} {v : Verdict} {s : State}

/-- A CONSTRAINED UNPREDICTABLE access never traps but to EL2 from arm F (R114, behaviour 5). -/
theorem constrainedUnpredictable_trap {c : CuChoice} {w : CuWhere} {target : EL} {code : Nat} {iss : BitVec 25}
    (h : constrainedUnpredictable c w e s = .fault (.systemAccessTrap target code iss)) :
    w = .guest ∧ target = .el2 ∧ code = 0x18 ∧ iss = e.iss := by
  cases c with
  | undefined | razWi | nop => cases h
  | unknownSel k =>
    simp only [constrainedUnpredictable] at h
    match s.numAccessible, h with
    | none, h => cases h
    | some 0, h => cases h
    | some (n + 1), h => cases h
  | trapEL2 =>
    cases w with
    | top => cases h
    | guest => cases h; exact ⟨rfl, rfl, rfl, rfl⟩

/-- A CONSTRAINED UNPREDICTABLE access is refused only where there is no number of accessible counters (D10). -/
theorem constrainedUnpredictable_refused {c : CuChoice} {w : CuWhere} {r : Refusal}
    (h : constrainedUnpredictable c w e s = .refused r) : r = .hpmnOutOfRange ∧ s.numAccessible = none := by
  cases c with
  | undefined | razWi | nop => cases h
  | unknownSel k =>
    simp only [constrainedUnpredictable] at h
    match hn : s.numAccessible with
    | none => rw [hn] at h; cases h; exact ⟨rfl, rfl⟩
    | some 0 => rw [hn] at h; cases h
    | some (n + 1) => rw [hn] at h; cases h
  | trapEL2 => cases w <;> cases h

theorem finishPmuAccess_undefined (h : finishPmuAccess e v s = .fault .undefined) :
    v = .undefined ∨ ∃ w, v = .unpredictable w := by
  cases v with
  | undefined => exact .inl rfl
  | unpredictable w => exact .inr ⟨w, rfl⟩
  | trap _ | hpmnRefused | ignored | perform => cases h

theorem finishPmuAccess_trap {target : EL} {code : Nat} {iss : BitVec 25}
    (h : finishPmuAccess e v s = .fault (.systemAccessTrap target code iss)) :
    (v = .trap target ∨ (v = .unpredictable .guest ∧ target = .el2)) ∧ code = 0x18 ∧ iss = e.iss := by
  cases v with
  | trap _ => cases h; exact ⟨.inl rfl, rfl, rfl⟩
  | unpredictable w =>
    obtain ⟨rfl, htarget, hcode, hiss⟩ := constrainedUnpredictable_trap h
    exact ⟨.inr ⟨rfl, htarget⟩, hcode, hiss⟩
  | undefined | hpmnRefused | ignored | perform => cases h

theorem finishPmuAccess_refused {r : Refusal} (h : finishPmuAccess e v s = .refused r) :
    r = .hpmnOutOfRange ∧ (v = .hpmnRefused ∨ s.numAccessible = none) := by
  cases v with
  | hpmnRefused => cases h; exact ⟨rfl, .inl rfl⟩
  | unpredictable w =>
    obtain ⟨hr, hn⟩ := constrainedUnpredictable_refused h
    exact ⟨hr, .inr hn⟩
  | undefined | trap _ | ignored | perform => cases h

end Inversion

section Causes

variable {i : Instr} {q : State → PmuQuery} {e : PmuEffect} {s : State}

theorem PmuAccess.not_selectsFilter (h : PmuAccess i q e) (hq : (q s).exempt = false) : ¬SelectsFilter i s :=
  fun hf => by simp [(h.exempt_iff s).mpr hf] at hq

/-- A DSPSR_EL0 access answers no fault but Undefined outside Debug state, and is never refused (R180, R181). -/
theorem exec_dspsr_outcome {i : Instr} (hi : (∃ t, i = .mrsDspsr t) ∨ ∃ t, i = .msrDspsr t) (s : State) :
    (∃ s', exec i s = .next s') ∨ (exec i s = .fault .undefined ∧ s.halted = false) := by
  cases hh : s.halted with
  | true =>
    obtain ⟨t, rfl⟩ | ⟨t, rfl⟩ := hi
    · exact .inl ⟨_, exec_mrsDspsr_of_halted hh t⟩
    · exact .inl ⟨_, exec_msrDspsr_of_halted hh t⟩
  | false =>
    obtain ⟨t, rfl⟩ | ⟨t, rfl⟩ := hi
    · exact .inr ⟨exec_mrsDspsr_of_not_halted hh t, rfl⟩
    · exact .inr ⟨exec_msrDspsr_of_not_halted hh t, rfl⟩

/-- Only arms A and F make an access CONSTRAINED UNPREDICTABLE, without FEAT_FGT and beyond the accessible counters. -/
theorem ArmHolds.cuArises {q : PmuQuery} {w : CuWhere} (h : ArmHolds q s (.unpredictable w)) :
    q.exempt = false ∧ CuArises s := by
  cases h with
  | unimplementedCu hq hsel hfgt => exact ⟨hq, hfgt, Nat.le_trans pseudoNumAccessible_le hsel⟩
  | inaccessibleCu _ _ hq hacc hfgt => exact ⟨hq, hfgt, hacc⟩

/-- Settles O18: the arms that answer Undefined, and CONSTRAINED UNPREDICTABLE behaviour 1. -/
theorem undefinedHasOnlyTheListedCauses : Obligations.UndefinedHasOnlyTheListedCauses := by
  unfold Obligations.UndefinedHasOnlyTheListedCauses
  intro i s hu
  obtain ⟨q, e, h⟩ | hd := pmuAccess_or_dspsr i
  · have hi := h.isPmuInstr_eq
    have harm := armHolds_checkPmuAccess (q s) s
    rw [h.exec_eq] at hu
    obtain hv | ⟨w, hv⟩ := finishPmuAccess_undefined hu
    · rw [hv] at harm
      cases harm with
      | absent hpmu => exact .inl ⟨hi, hpmu⟩
      | unimplemented hq hsel hfgt => exact .inr (.inl ⟨hi, hfgt, h.not_selectsFilter hq, hsel⟩)
      | sddPriority hprio =>
        obtain ⟨hhalt, hhave, hsdd, -, htpm, h3⟩ := hprio
        exact .inr (.inr (.inl ⟨hi, hhalt, hsdd, hhave, htpm, h3⟩))
      | el3Undefined h3 hhave htpm hsdd => exact .inr (.inr (.inl ⟨hi, hsdd.1, hsdd.2, hhave, htpm, h3⟩))
    · rw [hv] at harm
      obtain ⟨hq, hcu⟩ := harm.cuArises
      exact .inr (.inr (.inr (.inl ⟨hi, h.not_selectsFilter hq, hcu⟩)))
  · obtain ⟨s', hs⟩ | ⟨-, hh⟩ := exec_dspsr_outcome hd s
    · rw [hs] at hu; cases hu
    · refine .inr (.inr (.inr (.inr ⟨?_, hh⟩)))
      obtain ⟨t, rfl⟩ | ⟨t, rfl⟩ := hd <;> rfl

/-- A trapped instruction is a PMU access, and the arm behind its target holds. -/
theorem exec_trap {i : Instr} {target : EL} {code : Nat} {iss : BitVec 25}
    (ht : exec i s = .fault (.systemAccessTrap target code iss)) :
    ∃ q e, PmuAccess i q e ∧ code = 0x18 ∧ iss = syndrome (accessOf i)
      ∧ (ArmHolds (q s) s (.trap target) ∨ (ArmHolds (q s) s (.unpredictable .guest) ∧ target = .el2)) := by
  obtain ⟨q, e, h⟩ | hd := pmuAccess_or_dspsr i
  · rw [h.exec_eq] at ht
    obtain ⟨hv, hcode, hiss⟩ := finishPmuAccess_trap ht
    have harm := armHolds_checkPmuAccess (q s) s
    refine ⟨q, e, h, hcode, hiss.trans h.iss_eq, ?_⟩
    obtain hv | ⟨hv, htarget⟩ := hv
    · exact .inl (hv ▸ harm)
    · exact .inr ⟨hv ▸ harm, htarget⟩
  · obtain ⟨s', hs⟩ | ⟨hs, -⟩ := exec_dspsr_outcome hd s
    · rw [hs] at ht; cases ht
    · rw [hs] at ht; cases ht

theorem haveEL2_of_el2Enabled (h : pseudoEL2Enabled s = true) : s.cfg.haveEL2 = true :=
  (Bool.and_eq_true_iff.mp h).1

theorem elNumber_lt_el2 (h : BelowEL2 s) : elNumber s.pstate.el < elNumber .el2 := by
  obtain h | h := h <;> rw [h] <;> decide

theorem elNumber_lt_el3 (h : s.pstate.el ≠ .el3) : elNumber s.pstate.el < elNumber .el3 := by
  obtain hel | hel | hel | hel := el_cases s.pstate.el
  · rw [hel]; decide
  · rw [hel]; decide
  · rw [hel]; decide
  · exact absurd hel h

/-- Settles O19: each trapping arm names an implemented level above the current one. -/
theorem trapsGoToAHigherImplementedLevel : Obligations.TrapsGoToAHigherImplementedLevel := by
  unfold Obligations.TrapsGoToAHigherImplementedLevel
  intro i s target code iss ht
  obtain ⟨q, e, h, hcode, hiss, harm⟩ := exec_trap ht
  refine ⟨h.isPmuInstr_eq, ?_⟩
  rw [← and_assoc]
  refine ⟨?_, hcode, hiss⟩
  obtain harm | ⟨harm, rfl⟩ := harm
  · cases harm with
    | disabledTge h0 _ he _ => exact ⟨elNumber_lt_el2 (.inl h0), haveEL2_of_el2Enabled he⟩
    | disabled h0 _ _ => exact ⟨by rw [h0]; decide, rfl⟩
    | guestTrap hb he _ => exact ⟨elNumber_lt_el2 hb, haveEL2_of_el2Enabled he⟩
    | inaccessible hb he _ _ _ => exact ⟨elNumber_lt_el2 hb, haveEL2_of_el2Enabled he⟩
    | el3Trap h3 hhave _ _ => exact ⟨elNumber_lt_el3 h3, hhave⟩
  · cases harm with
    | inaccessibleCu hb he _ _ _ => exact ⟨elNumber_lt_el2 hb, haveEL2_of_el2Enabled he⟩

/-- Settles O20: the trapping arms of each target. -/
theorem trapsHaveOnlyTheListedCauses : Obligations.TrapsHaveOnlyTheListedCauses := by
  unfold Obligations.TrapsHaveOnlyTheListedCauses
  intro i s target code iss ht
  obtain ⟨q, e, h, -, -, harm⟩ := exec_trap ht
  obtain harm | ⟨harm, rfl⟩ := harm
  · cases harm with
    | disabledTge h0 hdis he htge =>
      exact .inr (.inl ⟨rfl, .inl h0, he, .inl ⟨h0, (h.el0Disabled_iff s).mp hdis, htge⟩⟩)
    | disabled h0 hdis htge => exact .inl ⟨rfl, h0, (h.el0Disabled_iff s).mp hdis, htge⟩
    | guestTrap hb he htrap =>
      rw [h.fineTrap_eq] at htrap
      exact .inr (.inl ⟨rfl, hb, he, .inr (htrap.imp_right .inl)⟩)
    | inaccessible hb he hq hacc _ =>
      exact .inr (.inl ⟨rfl, hb, he, .inr (.inr (.inr ⟨h.not_selectsFilter hq, hacc⟩))⟩)
    | el3Trap h3 hhave htpm hsdd => exact .inr (.inr ⟨rfl, h3, hhave, htpm, hsdd⟩)
  · cases harm with
    | inaccessibleCu hb he hq hacc _ =>
      exact .inr (.inl ⟨rfl, hb, he, .inr (.inr (.inr ⟨h.not_selectsFilter hq, hacc⟩))⟩)

/-- Settles O30: the number of accessible counters is what a refused instruction lacked. -/
theorem onlyOutOfRangeHpmnRefusesAnInstruction : Obligations.OnlyOutOfRangeHpmnRefusesAnInstruction := by
  unfold Obligations.OnlyOutOfRangeHpmnRefusesAnInstruction
  intro i s r hr
  obtain ⟨q, e, h⟩ | hd := pmuAccess_or_dspsr i
  · rw [h.exec_eq] at hr
    obtain ⟨hreason, hv | hn⟩ := finishPmuAccess_refused hr
    · have harm := armHolds_checkPmuAccess (q s) s
      rw [hv] at harm
      cases harm with
      | hpmnRefused href => exact ⟨hreason, h.isPmuInstr_eq, href⟩
    · exact ⟨hreason, h.isPmuInstr_eq, State.numAccessible_eq_none_iff.mp hn⟩
  · obtain ⟨s', hs⟩ | ⟨hs, -⟩ := exec_dspsr_outcome hd s
    · rw [hs] at hr; cases hr
    · rw [hs] at hr; cases hr

end Causes

end Sys2Proof.Machine
end

section
/-! The CONSTRAINED UNPREDICTABLE accesses take R114's behaviours, and the free choice reaches each (40_pmxevcntr.md
section 3, 41_pmxevtyper.md section 2). -/

namespace Sys2Proof.Machine

variable {i : Instr} {q : State → PmuQuery} {e : PmuEffect} {s : State}

/-- Under any choice the outcome is a permitted one; behaviour 5 is arm F's (R114). -/
theorem constrainedUnpredictable_permitted (hr : ¬HpmnRefused s) (c : CuChoice) (w : CuWhere) (e : PmuEffect) :
    PermittedAnywhere s (e.ignored s) (fun k => e.perform k s) (constrainedUnpredictable c w e s)
      ∨ (w = .guest ∧ constrainedUnpredictable c w e s = .fault (.systemAccessTrap .el2 0x18 e.iss)) := by
  cases c with
  | undefined => exact .inl (.inl rfl)
  | razWi => exact .inl (.inr (.inl rfl))
  | nop => exact .inl (.inr (.inr (.inl rfl)))
  | unknownSel k =>
    left
    simp only [constrainedUnpredictable, State.numAccessible_of_not_hpmnRefused hr]
    match hn : pseudoNumAccessible s with
    | 0 => exact .inl rfl
    | n + 1 => exact .inr (.inr (.inr ⟨k % (n + 1), hn ▸ Nat.mod_lt _ (Nat.succ_pos n), rfl⟩))
  | trapEL2 =>
    cases w with
    | top => exact .inl (.inl rfl)
    | guest => exact .inr ⟨rfl, rfl⟩

/-- Only what the access with an accessible register does is part of the permission. -/
theorem PermittedAnywhere.congr {ig : State} {f g : Nat → State} {o : Result} (h : PermittedAnywhere s ig f o)
    (hfg : ∀ k, k < s.cfg.numCounters.val → f k = g k) : PermittedAnywhere s ig g o := by
  obtain ho | ho | ho | ⟨k, hk, ho⟩ := h
  · exact .inl ho
  · exact .inr (.inl ho)
  · exact .inr (.inr (.inl ho))
  · exact .inr (.inr (.inr ⟨k, hk, ho.trans (by rw [hfg k (Nat.lt_of_lt_of_le hk pseudoNumAccessible_le)])⟩))

/-- Arm A without FEAT_FGT: behaviours 1 to 4. -/
theorem PmuAccess.permitted_of_unimplemented (h : PmuAccess i q e) (hf : ¬SelectsFilter i s)
    (hpmu : s.cfg.featPMUv3 = true) (hfgt : s.cfg.featFGT = false) (hr : ¬HpmnRefused s)
    (hsel : s.cfg.numCounters.val ≤ s.ctl.pmselrSel.toNat) :
    PermittedAnywhere s (e.ignored s) (fun k => e.perform k s) (exec i s) := by
  rw [h.exec_eq, checkPmuAccess_unimplemented hpmu (h.not_exempt hf) hsel, hfgt]
  exact (constrainedUnpredictable_permitted hr _ .top e).resolve_right fun ⟨hw, _⟩ => nomatch hw

/-- Arm F without FEAT_FGT: behaviours 1 to 5. -/
theorem PmuAccess.permitted_of_inaccessible (h : PmuAccess i q e) (hf : ¬SelectsFilter i s)
    (hpmu : s.cfg.featPMUv3 = true) (hfgt : s.cfg.featFGT = false) (hr : ¬HpmnRefused s)
    (hsel : s.ctl.pmselrSel.toNat < s.cfg.numCounters.val) (hacc : pseudoNumAccessible s ≤ s.ctl.pmselrSel.toNat)
    (hprio : ¬SddPriority s) (htpm : s.ctl.mdcrEl2.tpm = false) (hen : s.pstate.el = .el0 → El0Enabled i s) :
    PermittedAnywhere s (e.ignored s) (fun k => e.perform k s) (exec i s) ∨ TrappedToEL2 i (exec i s) := by
  have hv := checkPmuAccess_inaccessible (h.pastArmC hpmu (.inr hsel) hen hprio) (h.not_exempt hf) hr hsel hacc
  rw [if_neg (by simp [hfgt, htpm])] at hv
  rw [h.exec_eq, hv]
  refine (constrainedUnpredictable_permitted hr _ .guest e).imp_right fun ⟨_, htrap⟩ => ?_
  rw [TrappedToEL2, ← h.iss_eq]
  exact htrap

/-- Settles O27: the read and the write, by arm A and by arm F. -/
theorem unpredictableCounterAccessIsPermitted : Obligations.UnpredictableCounterAccessIsPermitted := by
  unfold Obligations.UnpredictableCounterAccessIsPermitted
  intro t s hpmu hfgt hr
  have hread : ¬SelectsFilter (.mrsPmxevcntr t) s := fun hf => nomatch hf.1
  have hwrite : ¬SelectsFilter (.msrPmxevcntr t) s := fun hf => nomatch hf.1
  exact ⟨fun hsel => ⟨(PmuAccess.counterRead t).permitted_of_unimplemented hread hpmu hfgt hr hsel,
      (PmuAccess.counterWrite t).permitted_of_unimplemented hwrite hpmu hfgt hr hsel⟩,
    fun hsel hacc hprio htpm =>
      ⟨(PmuAccess.counterRead t).permitted_of_inaccessible hread hpmu hfgt hr hsel hacc hprio htpm,
        (PmuAccess.counterWrite t).permitted_of_inaccessible hwrite hpmu hfgt hr hsel hacc hprio htpm⟩⟩

/-- With an implemented counter's number in place of SEL the type window reaches a type register, not the filter. -/
theorem typeRead_perform {k : Nat} (hk : k < s.cfg.numCounters.val) (t : Nat) :
    (pmxevtyperReadEffect t).perform k s = s.setX t (s.readEvtyper k) := by
  have hle := numCounters_le s.cfg
  simp only [pmxevtyperReadEffect, State.readType, if_neg (show k ≠ 31 by omega)]

theorem typeWrite_perform {k : Nat} (hk : k < s.cfg.numCounters.val) (t : Nat) :
    (pmxevtyperWriteEffect t).perform k s = s.setEvtyper k (s.readX t) := by
  have hle := numCounters_le s.cfg
  simp only [pmxevtyperWriteEffect, State.writeType, if_neg (show k ≠ 31 by omega)]

/-- Settles O28: an accessible number in place of SEL is never 31. -/
theorem unpredictableTypeAccessIsPermitted : Obligations.UnpredictableTypeAccessIsPermitted := by
  unfold Obligations.UnpredictableTypeAccessIsPermitted
  intro t s hpmu hfgt hr h31
  have hread : ¬SelectsFilter (.mrsPmxevtyper t) s := fun hf => h31 hf.2
  have hwrite : ¬SelectsFilter (.msrPmxevtyper t) s := fun hf => h31 hf.2
  refine ⟨fun hsel => ⟨?_, ?_⟩, fun hsel hacc hprio htpm => ⟨fun hen => ?_, fun hen => ?_⟩⟩
  · exact ((PmuAccess.typeRead t).permitted_of_unimplemented hread hpmu hfgt hr hsel).congr
      fun k hk => typeRead_perform hk t
  · exact ((PmuAccess.typeWrite t).permitted_of_unimplemented hwrite hpmu hfgt hr hsel).congr
      fun k hk => typeWrite_perform hk t
  · exact ((PmuAccess.typeRead t).permitted_of_inaccessible hread hpmu hfgt hr hsel hacc hprio htpm hen).imp_left
      fun hp => hp.congr fun k hk => typeRead_perform hk t
  · exact ((PmuAccess.typeWrite t).permitted_of_inaccessible hwrite hpmu hfgt hr hsel hacc hprio htpm hen).imp_left
      fun hp => hp.congr fun k hk => typeWrite_perform hk t

/-- Settles O29: the choice that gives each behaviour is the one named after it. -/
theorem everyPermittedBehaviourIsAChoice : Obligations.EveryPermittedBehaviourIsAChoice := by
  unfold Obligations.EveryPermittedBehaviourIsAChoice
  refine fun w e s => ⟨⟨.undefined, rfl⟩, ⟨.razWi, rfl⟩, ⟨.nop, rfl⟩, fun n k hn hk => ⟨.unknownSel k, ?_⟩,
    fun hw => ⟨.trapEL2, hw ▸ rfl⟩⟩
  obtain ⟨m, rfl⟩ := Nat.exists_eq_succ_of_ne_zero (Nat.ne_of_gt (Nat.lt_of_le_of_lt (Nat.zero_le k) hk))
  simp only [constrainedUnpredictable, hn, Nat.mod_eq_of_lt hk]

end Sys2Proof.Machine
end

section
/-! What a completing instruction changes and what it leaves (40_pmxevcntr.md, 41_pmxevtyper.md, 42_dspsr.md). -/

namespace Sys2Proof.Machine

variable {i : Instr} {q : State → PmuQuery} {e : PmuEffect} {s s' : State}

/-- What a PMU access completes with: as read-as-zero or write-ignored at EL0, with the selected register, or by a
CONSTRAINED UNPREDICTABLE behaviour, which alone counts a draw. -/
theorem PmuAccess.exec_next (h : PmuAccess i q e) (hs : exec i s = .next s') :
    (PastArmA (q s) s ∧ PastArmF (q s) s
      ∧ ((s' = (e.ignored s).advance ∧ s.pstate.el = .el0 ∧ (q s).el0Ignored = true)
        ∨ s' = (e.perform s.sel s).advance))
    ∨ ((q s).exempt = false ∧ CuArises s ∧ ∃ u, s' = u.advance.bumpDraws
        ∧ (u = e.ignored s ∨ u = s ∨ ∃ k, k < pseudoNumAccessible s ∧ u = e.perform k s)) := by
  have harm := armHolds_checkPmuAccess (q s) s
  rw [h.exec_eq] at hs
  obtain ⟨hv, hs'⟩ | ⟨hv, hs'⟩ | ⟨w, hv, hs'⟩ := finishPmuAccess_next hs
  · rw [hv] at harm
    cases harm with
    | perform hA hacc _ => exact .inl ⟨hA, hacc, .inr hs'⟩
  · rw [hv] at harm
    cases harm with
    | ignored hA hacc h0 hig => exact .inl ⟨hA, hacc, .inl ⟨hs', h0, hig⟩⟩
  · rw [hv] at harm
    obtain ⟨hq, hcu⟩ := harm.cuArises
    refine .inr ⟨hq, hcu, ?_⟩
    obtain hs' | hs' | ⟨k, n, hn, hk, hs'⟩ := hs'
    · exact ⟨_, hs', .inl rfl⟩
    · exact ⟨_, hs', .inr (.inl rfl)⟩
    · obtain ⟨-, rfl⟩ := State.numAccessible_eq_some_iff.mp hn
      exact ⟨_, hs', .inr (.inr ⟨k, hk, rfl⟩)⟩

/-- The register transfers of the six instructions: none, a general-purpose register, an implemented counter, an
implemented type register or the filter, or DSPSR_EL0 through Res0Mask. -/
inductive Transfer (s : State) : State → Prop where
  | none : Transfer s s
  | toX (t : Nat) (v : Word) : Transfer s (s.setX t v)
  | counter (k : Nat) (v : Word) (hk : k < s.cfg.numCounters.val) : Transfer s (s.writeCounter k v)
  | type (k : Nat) (v : Word) (hk : k = 31 ∨ k < s.cfg.numCounters.val) : Transfer s (s.writeType k v)
  | dspsr (v : Word) : Transfer s (s.setDspsr (res0Mask s.cfg v))

theorem PmuAccess.transfer_ignored (h : PmuAccess i q e) (s : State) : Transfer s (e.ignored s) := by
  cases h with
  | counterRead t => exact .toX t 0
  | counterWrite t => exact .none
  | typeRead t => exact .toX t 0
  | typeWrite t => exact .none

theorem PmuAccess.transfer_perform_of_lt (h : PmuAccess i q e) {k : Nat} (hk : k < s.cfg.numCounters.val) :
    Transfer s (e.perform k s) := by
  cases h with
  | counterRead t => exact .toX t _
  | counterWrite t => exact .counter k _ hk
  | typeRead t => exact .toX t _
  | typeWrite t => exact .type k _ (.inr hk)

theorem PmuAccess.transfer_perform_sel (h : PmuAccess i q e) (hA : PastArmA (q s) s) :
    Transfer s (e.perform s.sel s) := by
  obtain hq | hsel := hA.2
  · obtain ⟨htype, h31⟩ := (h.exempt_iff s).mp hq
    cases h with
    | counterRead t => cases htype
    | counterWrite t => cases htype
    | typeRead t => exact .toX t _
    | typeWrite t => exact .type _ _ (.inl ((State.sel_eq_31_iff s).mpr h31))
  · exact h.transfer_perform_of_lt hsel

/-- Everything an instruction completes with: one transfer, the pc advanced, and at most one draw counted. -/
theorem exec_next_transfer (hs : exec i s = .next s') :
    ∃ u, Transfer s u ∧ (s' = u.advance ∨ s' = u.advance.bumpDraws) := by
  obtain ⟨q, e, h⟩ | ⟨t, rfl⟩ | ⟨t, rfl⟩ := pmuAccess_or_dspsr i
  · obtain ⟨hA, -, ⟨hs', -, -⟩ | hs'⟩ | ⟨-, -, u, hs', hu⟩ := h.exec_next hs
    · exact ⟨_, h.transfer_ignored s, .inl hs'⟩
    · exact ⟨_, h.transfer_perform_sel hA, .inl hs'⟩
    · refine ⟨u, ?_, .inr hs'⟩
      obtain rfl | rfl | ⟨k, hk, rfl⟩ := hu
      · exact h.transfer_ignored s
      · exact .none
      · exact h.transfer_perform_of_lt (Nat.lt_of_lt_of_le hk pseudoNumAccessible_le)
  · simp only [exec, execMrsDspsr] at hs
    split at hs
    · cases hs
    · cases hs; exact ⟨_, .toX t _, .inl rfl⟩
  · simp only [exec, execMsrDspsr] at hs
    split at hs
    · cases hs
    · cases hs; exact ⟨_, .dspsr _, .inl rfl⟩

/-- The parts of the state no instruction writes, and the pc before it advances. -/
structure SameControl (s u : State) : Prop where
  pc : u.pc = s.pc
  pstate : u.pstate = s.pstate
  ctl : u.ctl = s.ctl
  halted : u.halted = s.halted
  security : u.security = s.security
  pmccntr : u.pmccntr = s.pmccntr
  cfg : u.cfg = s.cfg
  inputs : u.inputs = s.inputs
  extReadData : u.extReadData = s.extReadData
  extAllowed : u.extAllowed = s.extAllowed

theorem Transfer.sameControl {u : State} (h : Transfer s u) : SameControl s u := by
  cases h with
  | none => exact ⟨rfl, rfl, rfl, rfl, rfl, rfl, rfl, rfl, rfl, rfl⟩
  | toX t v => constructor <;> simp
  | counter k v _ => constructor <;> simp
  | type k v _ => constructor <;> simp
  | dspsr v => constructor <;> simp

/-- Settles O38: no transfer, no advance of the pc and no draw writes any of these. -/
theorem noInstructionWritesPstateOrControls : Obligations.NoInstructionWritesPstateOrControls := by
  unfold Obligations.NoInstructionWritesPstateOrControls
  intro i s s' hs
  obtain ⟨u, hu, rfl | rfl⟩ := exec_next_transfer hs <;>
    simp [hu.sameControl.pstate, hu.sameControl.ctl, hu.sameControl.halted, hu.sameControl.security,
      hu.sameControl.pmccntr, hu.sameControl.cfg, hu.sameControl.inputs, hu.sameControl.extReadData,
      hu.sameControl.extAllowed]

/-- The pc of a completed instruction (D2, D17). -/
theorem exec_next_pc (hs : exec i s = .next s') : s'.pc = if s.halted then s.pc else nextPc s.pc := by
  obtain ⟨u, hu, rfl | rfl⟩ := exec_next_transfer hs
  · rw [State.advance_pc, hu.sameControl.halted, hu.sameControl.pc]
  · rw [State.bumpDraws_pc, State.advance_pc, hu.sameControl.halted, hu.sameControl.pc]

/-- Where the sum fits, the next pc is 4 more. -/
theorem toNat_nextPc {pc : Word} (h : pc.toNat + 4 < 2 ^ 64) : (nextPc pc).toNat = pc.toNat + 4 := by
  rw [nextPc, if_pos h, BitVec.toNat_add]
  exact Nat.mod_eq_of_lt h

/-- Settles O42: the pc is the only part of the state that completion itself moves. -/
theorem completionAdvancesThePcByFour : Obligations.CompletionAdvancesThePcByFour := by
  unfold Obligations.CompletionAdvancesThePcByFour
  intro i s s' hs
  rw [exec_next_pc hs]
  exact ⟨fun hh => if_pos hh, fun hh hfit => by rw [if_neg (by simp [hh]), toNat_nextPc hfit]⟩

section Frames

/-- Past arm F an access that is not exempt is no CONSTRAINED UNPREDICTABLE one. -/
theorem PastArmF.not_cuArises {q : PmuQuery} (h : PastArmF q s) (hq : q.exempt = false) : ¬CuArises s :=
  fun hcu => Nat.not_le.mpr (h hq) hcu.2

@[simp] theorem State.rawEvcntr_advance (s : State) (n : Nat) : s.advance.rawEvcntr n = s.rawEvcntr n := by
  simp [State.rawEvcntr]

@[simp] theorem State.rawEvcntr_bumpDraws (s : State) (n : Nat) : s.bumpDraws.rawEvcntr n = s.rawEvcntr n := rfl

@[simp] theorem State.readEvtyper_advance (s : State) (n : Nat) : s.advance.readEvtyper n = s.readEvtyper n := by
  simp [State.readEvtyper]

@[simp] theorem State.readEvtyper_bumpDraws (s : State) (n : Nat) : s.bumpDraws.readEvtyper n = s.readEvtyper n := rfl

/-- A completion with `u` in place of `s`: the pc advanced, and a draw counted only where the access is CONSTRAINED
UNPREDICTABLE. -/
def CompletesWith (s u s' : State) : Prop :=
  s' = u.advance ∨ (CuArises s ∧ s' = u.advance.bumpDraws)

theorem CompletesWith.draws {u : State} (h : CompletesWith s u s') (hu : u.draws = s.draws) :
    s'.draws = s.draws ∨ (CuArises s ∧ s'.draws = s.draws + 1) := by
  obtain rfl | ⟨hcu, rfl⟩ := h
  · exact .inl (by simp [hu])
  · exact .inr ⟨hcu, by simp [hu]⟩

theorem State.advance_eq_update (u : State) : ∃ pc, u.advance = { u with pc := pc } := by
  unfold State.advance
  split
  · exact ⟨u.pc, rfl⟩
  · exact ⟨nextPc u.pc, rfl⟩

/-- A completion moves the pc and the draw count of `u` only. -/
theorem CompletesWith.eq_update {u : State} (h : CompletesWith s u s') :
    ∃ pc draws, s' = { u with pc := pc, draws := draws } := by
  obtain ⟨pc, hpc⟩ := u.advance_eq_update
  obtain rfl | ⟨-, rfl⟩ := h
  · exact ⟨pc, u.draws, by rw [hpc]⟩
  · exact ⟨pc, u.draws + 1, by rw [hpc]; rfl⟩

theorem CompletesWith.readX_eq {u : State} (h : CompletesWith s u s') (n : Nat) : s'.readX n = u.readX n := by
  obtain ⟨pc, draws, rfl⟩ := h.eq_update
  rfl

theorem CompletesWith.rawEvcntr_eq {u : State} (h : CompletesWith s u s') (n : Nat) :
    s'.rawEvcntr n = u.rawEvcntr n := by
  obtain ⟨pc, draws, rfl⟩ := h.eq_update
  rfl

theorem CompletesWith.readEvtyper_eq {u : State} (h : CompletesWith s u s') (n : Nat) :
    s'.readEvtyper n = u.readEvtyper n := by
  obtain ⟨pc, draws, rfl⟩ := h.eq_update
  rfl

theorem State.setX_eq_update (s : State) (t : Nat) (v : Word) : ∃ x, s.setX t v = { s with x := x } := by
  unfold State.setX
  split
  · exact ⟨_, rfl⟩
  · exact ⟨s.x, rfl⟩

/-- The effect of a read leaves the state or writes its destination. -/
abbrev ReadsInto (t : Nat) (s u : State) : Prop := u = s ∨ ∃ v, u = s.setX t v

/-- A read through the check chain completes with nothing but its destination written. -/
theorem PmuAccess.exec_read_next {t : Nat} (h : PmuAccess i q e) (hig : ReadsInto t s (e.ignored s))
    (hp : ∀ k, ReadsInto t s (e.perform k s)) (hs : exec i s = .next s') :
    ∃ u, ReadsInto t s u ∧ CompletesWith s u s' := by
  obtain ⟨-, -, ⟨hs', -, -⟩ | hs'⟩ | ⟨-, hcu, u, hs', hu⟩ := h.exec_next hs
  · exact ⟨_, hig, .inl hs'⟩
  · exact ⟨_, hp s.sel, .inl hs'⟩
  · refine ⟨u, ?_, .inr ⟨hcu, hs'⟩⟩
    obtain rfl | rfl | ⟨k, -, rfl⟩ := hu
    · exact hig
    · exact .inl rfl
    · exact hp k

/-- A completing MRS has written its destination, or nothing. -/
theorem exec_mrs_next {t : Nat} (hi : i = .mrsPmxevcntr t ∨ i = .mrsPmxevtyper t ∨ i = .mrsDspsr t)
    (hs : exec i s = .next s') : ∃ u, ReadsInto t s u ∧ CompletesWith s u s' := by
  obtain rfl | rfl | rfl := hi
  · exact (PmuAccess.counterRead t).exec_read_next (.inr ⟨_, rfl⟩) (fun k => .inr ⟨_, rfl⟩) hs
  · exact (PmuAccess.typeRead t).exec_read_next (.inr ⟨_, rfl⟩) (fun k => .inr ⟨_, rfl⟩) hs
  · simp only [exec, execMrsDspsr] at hs
    split at hs
    · cases hs
    · cases hs; exact ⟨_, .inr ⟨_, rfl⟩, .inl rfl⟩

/-- Settles O39: a completion moves the pc and the draw count, and the read its destination. -/
theorem readsChangeOnlyTheirDestination : Obligations.ReadsChangeOnlyTheirDestination := by
  unfold Obligations.ReadsChangeOnlyTheirDestination
  intro i t s s' hi hs
  obtain ⟨u, hu, hc⟩ := exec_mrs_next hi hs
  have hframe : ∃ x, u = { s with x := x } := by
    obtain rfl | ⟨v, rfl⟩ := hu
    · exact ⟨u.x, rfl⟩
    · exact s.setX_eq_update t v
  refine ⟨?_, fun n hn => ?_, fun ht => ?_, hc.draws ?_⟩
  · obtain ⟨pc, draws, rfl⟩ := hc.eq_update
    obtain ⟨x, rfl⟩ := hframe
    rfl
  · rw [hc.readX_eq]
    obtain rfl | ⟨v, rfl⟩ := hu
    · rfl
    · rw [State.readX_setX, if_neg fun h => hn h.1]
  · obtain ⟨pc, draws, rfl⟩ := hc.eq_update
    obtain rfl | ⟨v, rfl⟩ := hu
    · rfl
    · rw [ht, State.setX_31]
  · obtain ⟨x, rfl⟩ := hframe
    rfl

/-- The effect of a write leaves the state, or writes one register: number SEL where the access is predictable, else an
accessible one. -/
def WritesWith (write : Nat → State) (s u : State) : Prop :=
  u = s ∨ ∃ k, k < s.cfg.numCounters.val ∧ u = write k ∧ (¬CuArises s → k = s.ctl.pmselrSel.toNat)
    ∧ (CuArises s → k < pseudoNumAccessible s)

/-- A write through the check chain that does not select the filter completes with at most one register written. -/
theorem PmuAccess.exec_write_next (h : PmuAccess i q e) (hq : (q s).exempt = false) (hig : e.ignored s = s)
    (hs : exec i s = .next s') : ∃ u, WritesWith (fun k => e.perform k s) s u ∧ CompletesWith s u s' := by
  obtain ⟨hA, hacc, ⟨hs', -, -⟩ | hs'⟩ | ⟨-, hcu, u, hs', hu⟩ := h.exec_next hs
  · exact ⟨s, .inl rfl, .inl (hig ▸ hs')⟩
  · refine ⟨_, .inr ⟨s.sel, hA.2.resolve_left (by simp [hq]), rfl, fun _ => rfl, fun hcu => ?_⟩, .inl hs'⟩
    exact absurd hcu (hacc.not_cuArises hq)
  · refine ⟨u, ?_, .inr ⟨hcu, hs'⟩⟩
    obtain rfl | rfl | ⟨k, hk, rfl⟩ := hu
    · exact .inl hig
    · exact .inl rfl
    · exact .inr ⟨k, Nat.lt_of_lt_of_le hk pseudoNumAccessible_le, rfl, fun hn => absurd hcu hn, fun _ => hk⟩

/-- What such a write leaves of the registers that `read` reads one by one. -/
theorem WritesWith.frame {write : Nat → State} {read : State → Nat → Word} {u : State} (h : WritesWith write s u)
    (hw : ∀ k n, k < s.cfg.numCounters.val → n ≠ k → read (write k) n = read s n) :
    (¬CuArises s → ∀ n, n ≠ s.ctl.pmselrSel.toNat → read u n = read s n)
      ∧ (CuArises s → (∀ n, pseudoNumAccessible s ≤ n → read u n = read s n)
        ∧ ∃ k, ∀ n, n ≠ k → read u n = read s n) := by
  obtain rfl | ⟨k, hk, rfl, hsel, hacc⟩ := h
  · exact ⟨fun _ _ _ => rfl, fun _ => ⟨fun _ _ => rfl, 0, fun _ _ => rfl⟩⟩
  · refine ⟨fun hcu n hn => hw k n hk (hsel hcu ▸ hn), fun hcu => ⟨fun n hn => ?_, k, fun n hn => hw k n hk hn⟩⟩
    have hlt := hacc hcu
    exact hw k n hk (by omega)

theorem lt_31_of_lt_numCounters {c : Config} {k : Nat} (hk : k < c.numCounters.val) : k < 31 :=
  Nat.lt_of_lt_of_le hk (numCounters_le c)

/-- Settles O40: the write leaves every counter but one, and a completion the rest. -/
theorem counterWritesChangeOnlyTheSelectedCounter : Obligations.CounterWritesChangeOnlyTheSelectedCounter := by
  unfold Obligations.CounterWritesChangeOnlyTheSelectedCounter
  intro t s s' hs
  obtain ⟨u, hu, hc⟩ := (PmuAccess.counterWrite t).exec_write_next rfl rfl hs
  have hframe : ∃ c, u = { s with evcntr := c } := by
    obtain rfl | ⟨k, -, rfl, -⟩ := hu
    · exact ⟨u.evcntr, rfl⟩
    · exact ⟨_, rfl⟩
  obtain ⟨hpred, hcu⟩ := hu.frame (read := State.rawEvcntr) fun k n hk hn => by
    rw [pmxevcntrWriteEffect, State.rawEvcntr_writeCounter _ _ _ _ (lt_31_of_lt_numCounters hk), if_neg hn]
  simp only [hc.rawEvcntr_eq]
  refine ⟨?_, hpred, hcu, hc.draws ?_⟩
  · obtain ⟨pc, draws, rfl⟩ := hc.eq_update
    obtain ⟨c, rfl⟩ := hframe
    rfl
  · obtain ⟨c, rfl⟩ := hframe
    rfl

/-- With SEL 31 a completing write of the type window changes the filter and the pc only. -/
theorem exec_msrPmxevtyper_31_next {t : Nat} (h31 : s.ctl.pmselrSel = 31) (hs : exec (.msrPmxevtyper t) s = .next s') :
    ∃ f, s' = ({ s with pmccfiltr := f } : State).advance := by
  have hsel := (State.sel_eq_31_iff s).mpr h31
  obtain ⟨-, -, ⟨hs', -, -⟩ | hs'⟩ | ⟨hq, -⟩ := (PmuAccess.typeWrite t).exec_next hs
  · exact ⟨s.pmccfiltr, hs'⟩
  · refine ⟨s.readX t &&& pmccfiltrKeep s.cfg, hs'.trans ?_⟩
    simp only [pmxevtyperWriteEffect, State.writeType, hsel, if_true]
    rfl
  · simp [pmxevtyperWriteQuery, hsel] at hq

/-- Settles O41: with SEL 31 the write reaches the filter, else it leaves every type register but one. -/
theorem typeWritesChangeOnlyTheSelectedRegister : Obligations.TypeWritesChangeOnlyTheSelectedRegister := by
  unfold Obligations.TypeWritesChangeOnlyTheSelectedRegister
  intro t s s' hs
  constructor
  · intro h31
    obtain ⟨f, hs'⟩ := exec_msrPmxevtyper_31_next h31 hs
    obtain ⟨pc, hpc⟩ := State.advance_eq_update { s with pmccfiltr := f }
    rw [hs', hpc]
  · intro h31
    have hq : (pmxevtyperWriteQuery s).exempt = false :=
      (PmuAccess.typeWrite t).not_exempt fun hf => h31 hf.2
    obtain ⟨u, hu, hc⟩ := (PmuAccess.typeWrite t).exec_write_next hq rfl hs
    have hframe : ∃ c, u = { s with evtyper := c } := by
      obtain rfl | ⟨k, hk, rfl, -⟩ := hu
      · exact ⟨u.evtyper, rfl⟩
      · exact ⟨_, typeWrite_perform hk t⟩
    obtain ⟨hpred, hcu⟩ := hu.frame (read := State.readEvtyper) fun k n hk hn => by
      rw [typeWrite_perform hk, State.readEvtyper_setEvtyper _ _ _ _ (lt_31_of_lt_numCounters hk), if_neg hn]
    simp only [hc.readEvtyper_eq]
    refine ⟨?_, hpred, hcu, hc.draws ?_⟩
    · obtain ⟨pc, draws, rfl⟩ := hc.eq_update
      obtain ⟨c, rfl⟩ := hframe
      rfl
    · obtain ⟨c, rfl⟩ := hframe
      rfl

end Frames

end Sys2Proof.Machine
end

section
/-! Counter values: the width without FEAT_PMUv3p5, the mask at EL0, and reading back what was written
(40_pmxevcntr.md sections 3 and 4, 41_pmxevtyper.md section 2). -/

namespace Sys2Proof.Machine

variable {s s' : State}

/-- A narrow counter holds 32 bits, the upper half 0 (R26, R27). -/
theorem counterValue_narrow {c : Config} (h : c.featPMUv3p5 = false) (v : Word) :
    (counterValue c v).extractLsb' 32 32 = 0 ∧ (counterValue c v).extractLsb' 0 32 = v.extractLsb' 0 32 := by
  rw [counterValue, if_neg (by simp [h])]
  constructor
  · refine BitVec.eq_of_getLsbD_eq fun k hk => ?_
    simp [BitVec.getLsbD_extractLsb']
  · refine BitVec.eq_of_getLsbD_eq fun k hk => ?_
    simp only [BitVec.getLsbD_extractLsb', BitVec.getLsbD_setWidth, Nat.zero_add, hk, show k < 64 by omega, decide_true,
      Bool.true_and]

/-- The low half of a word is its bits under the mask 0xFFFFFFFF. -/
theorem low_half_eq_and (w : Word) : (w.extractLsb' 0 32).setWidth 64 = w &&& 0xFFFFFFFF := by
  apply BitVec.eq_of_toNat_eq
  have hmask : w.toNat &&& 4294967295 = w.toNat % 4294967296 := Nat.and_two_pow_sub_one_eq_mod w.toNat 32
  simp [BitVec.toNat_and, hmask]
  omega

/-- The high half of a word is the word shifted down. -/
theorem high_half_eq_shift (w : Word) : (w.extractLsb' 32 32).setWidth 64 = w >>> 32 := by
  apply BitVec.eq_of_toNat_eq
  have hw : w.toNat < 2 ^ 64 := w.isLt
  simp [Nat.shiftRight_eq_div_pow]
  omega

/-- The counter's width as a mask on the value (R26, R113). -/
theorem counterValue_eq_ite (c : Config) (v : Word) :
    counterValue c v = if c.featPMUv3p5 then v else v &&& 0xFFFFFFFF := by
  rw [counterValue, low_half_eq_and]

/-- Arm H of the counter window is met with UEN only. -/
theorem uenActs_of_counterRead_ignored (h : (pmxevcntrReadQuery s).el0Ignored = true) : UenActs s :=
  (State.uenEnables_iff s).mp (Bool.and_eq_true_iff.mp h).1

theorem uenActs_of_counterWrite_ignored (h : (pmxevcntrWriteQuery s).el0Ignored = true) : UenActs s :=
  (State.uenEnables_iff s).mp (Bool.and_eq_true_iff.mp h).1

/-- Settles O35: a predictable access moves the counter's value at its width, or is masked at EL0. -/
theorem narrowCountersKeepTheirUpperHalfZero : Obligations.NarrowCountersKeepTheirUpperHalfZero := by
  unfold Obligations.NarrowCountersKeepTheirUpperHalfZero
  intro t s s' hp5 hcu
  constructor
  · intro ht hs
    obtain ⟨-, -, ⟨rfl, h0, hig⟩ | rfl⟩ | ⟨-, hcu', -⟩ := (PmuAccess.counterRead t).exec_next hs
    · have hzero : ((pmxevcntrReadEffect t).ignored s).advance.readX t = 0 := by
        simp [pmxevcntrReadEffect, State.readX_setX, ht]
      rw [hzero]
      exact ⟨rfl, .inr ⟨h0, uenActs_of_counterRead_ignored hig, rfl⟩⟩
    · have hval : ((pmxevcntrReadEffect t).perform s.sel s).advance.readX t
          = counterValue s.cfg (s.rawEvcntr s.ctl.pmselrSel.toNat) := by
        rw [State.readX_advance, pmxevcntrReadEffect, State.readX_setX, if_pos ⟨rfl, ht⟩]
        rfl
      obtain ⟨hhigh, hlow⟩ := counterValue_narrow hp5 (s.rawEvcntr s.ctl.pmselrSel.toNat)
      rw [hval]
      exact ⟨hhigh, .inl hlow⟩
    · exact absurd hcu' hcu
  · intro hs
    obtain ⟨hA, -, ⟨rfl, h0, hig⟩ | rfl⟩ | ⟨-, hcu', -⟩ := (PmuAccess.counterWrite t).exec_next hs
    · exact .inr ⟨h0, uenActs_of_counterWrite_ignored hig, State.advance_evcntr s⟩
    · have hlt : s.sel < 31 := lt_31_of_lt_numCounters (hA.2.resolve_left nofun)
      have hval : ((pmxevcntrWriteEffect t).perform s.sel s).advance.rawEvcntr s.ctl.pmselrSel.toNat
          = counterValue s.cfg (s.readX t) := by
        rw [State.rawEvcntr_advance, pmxevcntrWriteEffect, State.rawEvcntr_writeCounter _ _ _ _ hlt]
        exact if_pos rfl
      rw [hval]
      exact .inl (counterValue_narrow hp5 (s.readX t))
    · exact absurd hcu' hcu

/-- Every event counter replaced. -/
def State.withCounters (v : Vector Word 31) (s : State) : State := { s with evcntr := v }

theorem State.withCounters_halted (s : State) (v : Vector Word 31) : (s.withCounters v).halted = s.halted := rfl

theorem State.advance_withCounters (s : State) (v : Vector Word 31) :
    (s.withCounters v).advance = s.advance.withCounters v := by
  unfold State.advance
  rw [State.withCounters_halted]
  split <;> rfl

theorem State.setX_withCounters (s : State) (v : Vector Word 31) (t : Nat) (x : Word) :
    (s.withCounters v).setX t x = (s.setX t x).withCounters v := by
  unfold State.setX
  split <;> rfl

/-- With FEAT_FGT and the access masked at EL0, no arm is left whose outcome is about a counter. -/
theorem PmuAccess.exec_withCounters_of_masked {i : Instr} {q : State → PmuQuery} {e : PmuEffect}
    (h : PmuAccess i q e) (v : Vector Word 31) (hfgt : s.cfg.featFGT = true) (h0 : s.pstate.el = .el0)
    (hmask : (q s).el0Ignored = true) (hq : q (s.withCounters v) = q s)
    (hig : e.ignored (s.withCounters v) = (e.ignored s).withCounters v) :
    exec i (s.withCounters v) = mapNext (State.withCounters v) (exec i s) := by
  have hchain : checkPmuAccess (q (s.withCounters v)) (s.withCounters v) = checkPmuAccess (q s) s := by
    rw [hq]
    rfl
  have harm := armHolds_checkPmuAccess (q s) s
  rw [h.exec_eq, h.exec_eq, hchain]
  cases hv : checkPmuAccess (q s) s with
  | undefined | trap _ | hpmnRefused => rfl
  | ignored => simp [finishPmuAccess, mapNext, hig, State.advance_withCounters]
  | unpredictable w =>
    rw [hv] at harm
    simp [harm.cuArises.2.1] at hfgt
  | perform =>
    rw [hv] at harm
    cases harm with
    | perform _ _ hnot => simp [hnot h0] at hmask

/-- Settles O33: the read masked at EL0 gives 0 and the write does nothing, whatever the counters hold. -/
theorem maskedCounterLeaksNothingToEl0 : Obligations.MaskedCounterLeaksNothingToEl0 := by
  unfold Obligations.MaskedCounterLeaksNothingToEl0
  intro t s v hfgt huen h0 hp
  have hpbit : s.pmuacrP s.sel = false := hp
  have huen := (State.uenEnables_iff s).mpr huen
  exact ⟨(PmuAccess.counterRead t).exec_withCounters_of_masked v hfgt h0 (by simp [pmxevcntrReadQuery, huen, hpbit]) rfl
      (s.setX_withCounters v t 0),
    (PmuAccess.counterWrite t).exec_withCounters_of_masked v hfgt h0 (by simp [pmxevcntrWriteQuery, huen, hpbit]) rfl rfl⟩

/-- A write of the counter window that nothing stops or ignores. -/
theorem exec_msrPmxevcntr_unmasked (t : Nat) (hpmu : s.cfg.featPMUv3 = true)
    (hsel : s.ctl.pmselrSel.toNat < s.cfg.numCounters.val)
    (hen : s.pstate.el = .el0 → s.ctl.pmuserenr.en = true ∧ ¬UenActs s) (h3 : EL3LetsThrough s)
    (h2 : EL2LetsThrough s.ctl.hdfgwtrEl2.pmevcntrn true s) :
    ∃ pc, exec (.msrPmxevcntr t) s = .next { s.writeCounter s.ctl.pmselrSel.toNat (s.readX t) with pc := pc } := by
  have hwritten : counterWritten s (s.readX t) = s.writeCounter s.ctl.pmselrSel.toNat (s.readX t) :=
    if_neg fun ⟨h0, huen, _⟩ => (hen h0).2 huen
  obtain ⟨pc, hpc⟩ := State.advance_eq_update (s.writeCounter s.ctl.pmselrSel.toNat (s.readX t))
  exact ⟨pc, by rw [msrPmxevcntrCompletes t s hpmu hsel (fun h0 => .inl (hen h0).1) h3 h2, hwritten, hpc]⟩

/-- A read of the counter window that nothing stops or masks. -/
theorem exec_mrsPmxevcntr_unmasked (t : Nat) (hpmu : s.cfg.featPMUv3 = true)
    (hsel : s.ctl.pmselrSel.toNat < s.cfg.numCounters.val)
    (hen : s.pstate.el = .el0 → s.ctl.pmuserenr.en = true ∧ ¬UenActs s) (h3 : EL3LetsThrough s)
    (h2 : EL2LetsThrough s.ctl.hdfgrtrEl2.pmevcntrn true s) :
    ∃ pc, exec (.mrsPmxevcntr t) s = .next { s.setX t (s.readCounter s.ctl.pmselrSel.toNat) with pc := pc } := by
  have hvisible : visibleCounter s = s.readCounter s.ctl.pmselrSel.toNat :=
    if_neg fun ⟨h0, huen, _⟩ => (hen h0).2 huen
  obtain ⟨pc, hpc⟩ := State.advance_eq_update (s.setX t (s.readCounter s.ctl.pmselrSel.toNat))
  exact ⟨pc, by rw [mrsPmxevcntrCompletes t s hpmu hsel (fun h0 => .inl (hen h0).1) h3 h2, hvisible, hpc]⟩

/-- A write of the type window that nothing stops or ignores. -/
theorem exec_msrPmxevtyper_unmasked (t : Nat) (hpmu : s.cfg.featPMUv3 = true)
    (hsel : s.ctl.pmselrSel = 31 ∨ s.ctl.pmselrSel.toNat < s.cfg.numCounters.val)
    (hen : s.pstate.el = .el0 → s.ctl.pmuserenr.en = true ∧ ¬UenActs s) (h3 : EL3LetsThrough s)
    (h2 : EL2LetsThrough s.ctl.hdfgwtrEl2.pmevtypern (decide (s.ctl.pmselrSel ≠ 31)) s) :
    ∃ pc, exec (.msrPmxevtyper t) s = .next { s.writeType s.sel (s.readX t) with pc := pc } := by
  have hwritten : typeWritten s (s.readX t) = s.writeType s.sel (s.readX t) := by
    rw [State.writeType_sel]
    exact if_neg fun ⟨h0, huen, _⟩ => (hen h0).2 huen
  obtain ⟨pc, hpc⟩ := State.advance_eq_update (s.writeType s.sel (s.readX t))
  exact ⟨pc, by rw [msrPmxevtyperCompletes t s hpmu hsel (fun h0 => .inl (hen h0).1) h3 h2, hwritten, hpc]⟩

/-- A read of the type window that nothing stops or masks. -/
theorem exec_mrsPmxevtyper_unmasked (t : Nat) (hpmu : s.cfg.featPMUv3 = true)
    (hsel : s.ctl.pmselrSel = 31 ∨ s.ctl.pmselrSel.toNat < s.cfg.numCounters.val)
    (hen : s.pstate.el = .el0 → s.ctl.pmuserenr.en = true ∧ ¬UenActs s) (h3 : EL3LetsThrough s)
    (h2 : EL2LetsThrough s.ctl.hdfgrtrEl2.pmevtypern (decide (s.ctl.pmselrSel ≠ 31)) s) :
    ∃ pc, exec (.mrsPmxevtyper t) s = .next { s.setX t (s.readType s.sel) with pc := pc } := by
  have hvisible : visibleType s = s.readType s.sel := by
    rw [State.readType_sel]
    exact if_neg fun ⟨h0, huen, _⟩ => (hen h0).2 huen
  obtain ⟨pc, hpc⟩ := State.advance_eq_update (s.setX t (s.readType s.sel))
  exact ⟨pc, by rw [mrsPmxevtyperCompletes t s hpmu hsel (fun h0 => .inl (hen h0).1) h3 h2, hvisible, hpc]⟩

/-- A counter read after it was written gives the written value at the counter's width (R113). -/
theorem State.readCounter_writeCounter {k : Nat} (hk : k < 31) (v : Word) :
    (s.writeCounter k v).readCounter k = if s.cfg.featPMUv3p5 then v else v &&& 0xFFFFFFFF := by
  rw [State.readCounter, State.rawEvcntr_writeCounter _ _ _ _ hk, if_pos rfl, State.writeCounter_cfg, counterValue_idem,
    counterValue_eq_ite]

/-- Settles O36: the write and the read complete one after the other, nothing but the counter, Xt and the pc between. -/
theorem counterReadsBackWhatWasWritten : Obligations.CounterReadsBackWhatWasWritten := by
  unfold Obligations.CounterReadsBackWhatWasWritten
  intro s w1 w2 rest t u ha hi hd1 hd2 hu hpmu hsel hen h3 h2w h2r
  let s0 := s.setInputs (.supply w2 :: rest)
  obtain ⟨pc1, h1⟩ := exec_msrPmxevcntr_unmasked (s := s0) t hpmu hsel hen h3 h2w
  let s1 : State := { s0.writeCounter s.ctl.pmselrSel.toNat (s.readX t) with pc := pc1 }
  obtain ⟨pc2, h2⟩ := exec_mrsPmxevcntr_unmasked (s := s1.setInputs rest) u hpmu hsel hen h3 h2r
  refine ⟨_, _, (step_supply ha hi hd1).trans h1, (step_supply (s := s1) ha rfl hd2).trans h2, ?_, fun n hn => ?_⟩
  · calc ((s1.setInputs rest).setX u _).readX u
        = (s0.writeCounter s.ctl.pmselrSel.toNat (s.readX t)).readCounter s.ctl.pmselrSel.toNat := by
          rw [State.readX_setX, if_pos ⟨rfl, hu⟩]; rfl
      _ = _ := State.readCounter_writeCounter (lt_31_of_lt_numCounters hsel) _
  · calc ((s1.setInputs rest).setX u _).readX n
        = (s1.setInputs rest).readX n := by rw [State.readX_setX, if_neg fun h => hn h.1]
      _ = s.readX n := rfl

/-- A type register read after it was written through the window, the filter's RES0 bits 0 (R30, R152). -/
theorem State.readType_writeType_sel (hsel : s.ctl.pmselrSel = 31 ∨ s.ctl.pmselrSel.toNat < s.cfg.numCounters.val)
    (v : Word) :
    (s.writeType s.sel v).readType s.sel = if s.ctl.pmselrSel = 31 then v &&& pmccfiltrKeep s.cfg else v := by
  by_cases h31 : s.ctl.pmselrSel = 31
  · rw [if_pos h31, (State.sel_eq_31_iff s).mpr h31]
    rfl
  · have hne := mt (State.sel_eq_31_iff s).mp h31
    have hlt : s.sel < 31 := lt_31_of_lt_numCounters (hsel.resolve_left h31)
    rw [if_neg h31, State.readType, if_neg hne, State.writeType, if_neg hne,
      State.readEvtyper_setEvtyper _ _ _ _ hlt, if_pos rfl]

theorem State.writeType_eq_update (s : State) (k : Nat) (v : Word) :
    ∃ f y, s.writeType k v = { s with pmccfiltr := f, evtyper := y } := by
  unfold State.writeType
  split
  · exact ⟨_, s.evtyper, rfl⟩
  · exact ⟨s.pmccfiltr, _, rfl⟩

/-- Settles O37: the write and the read complete one after the other, nothing but the register, Xt and the pc between. -/
theorem typeReadsBackWhatWasWritten : Obligations.TypeReadsBackWhatWasWritten := by
  unfold Obligations.TypeReadsBackWhatWasWritten
  intro s w1 w2 rest t u ha hi hd1 hd2 hu hpmu hsel hen h3 h2w h2r
  let s0 := s.setInputs (.supply w2 :: rest)
  obtain ⟨pc1, h1⟩ := exec_msrPmxevtyper_unmasked (s := s0) t hpmu hsel hen h3 h2w
  obtain ⟨f, y, hw⟩ := s0.writeType_eq_update s0.sel (s0.readX t)
  rw [hw] at h1
  let s1 : State := { s0 with pmccfiltr := f, evtyper := y, pc := pc1 }
  obtain ⟨pc2, h2⟩ := exec_mrsPmxevtyper_unmasked (s := s1.setInputs rest) u hpmu hsel hen h3 h2r
  refine ⟨_, _, (step_supply ha hi hd1).trans h1, (step_supply (s := s1) ha rfl hd2).trans h2, ?_, fun n hn => ?_⟩
  · calc ((s1.setInputs rest).setX u _).readX u
        = ({ s0 with pmccfiltr := f, evtyper := y } : State).readType s0.sel := by
          rw [State.readX_setX, if_pos ⟨rfl, hu⟩]; rfl
      _ = (s0.writeType s0.sel (s0.readX t)).readType s0.sel := by rw [hw]
      _ = _ := State.readType_writeType_sel (s := s0) hsel _
  · calc ((s1.setInputs rest).setX u _).readX n
        = (s1.setInputs rest).readX n := by rw [State.readX_setX, if_neg fun h => hn h.1]
      _ = s.readX n := rfl

end Sys2Proof.Machine
end

section
/-! The bits of DSPSR_EL0: which the layouts keep, and the copies of PSTATE (10_state.md R47, R48, 42_dspsr.md R183,
R186). -/

namespace Sys2Proof.Machine

theorem getLsbD_bitAt {k : Nat} (hk : k < 64) (b : Bool) (j : Nat) :
    (bitAt b k).getLsbD j = (b && decide (j = k)) := by
  cases b with
  | false => simp [bitAt]
  | true =>
    simp only [bitAt, if_true, BitVec.getLsbD_shiftLeft, BitVec.getLsbD_one]
    by_cases hj : j = k
    · simp [hj, hk]
    · simp [hj]
      omega

/-- The bits of the AArch64 layout that no feature gates (R48). -/
theorem getLsbD_plainKeep64 : ∀ k < 64, (0xF03003DF#64).getLsbD k
    = decide (k ≤ 9 ∧ k ≠ 5 ∨ k = 20 ∨ k = 21 ∨ 28 ≤ k ∧ k ≤ 31) := by
  decide

theorem getLsbD_plainKeep32 : ∀ k < 64, (0xFE3FFFFF#64).getLsbD k = decide (k ≤ 21 ∨ 25 ≤ k ∧ k ≤ 31) := by
  decide

/-- The layouts keep no bit that a word does not have. -/
theorem kept64_of_ge (c : Config) {k : Nat} (hk : 64 ≤ k) : kept64 c k = false := by
  grind [kept64]

theorem kept32_of_ge (c : Config) {k : Nat} (hk : 64 ≤ k) : kept32 c k = false := by
  grind [kept32]

theorem getLsbD_dspsrKeep64 (c : Config) (k : Nat) : (dspsrKeep64 c).getLsbD k = kept64 c k := by
  by_cases hk : k < 64
  · simp only [dspsrKeep64, BitVec.getLsbD_or, getLsbD_plainKeep64 k hk, getLsbD_bitAt, Nat.reduceLT]
    unfold kept64
    split_ifs <;> grind
  · rw [BitVec.getLsbD_of_ge _ _ (Nat.le_of_not_lt hk), kept64_of_ge c (Nat.le_of_not_lt hk)]

theorem getLsbD_dspsrKeep32 (c : Config) (k : Nat) : (dspsrKeep32 c).getLsbD k = kept32 c k := by
  by_cases hk : k < 64
  · simp only [dspsrKeep32, BitVec.getLsbD_or, getLsbD_plainKeep32 k hk, getLsbD_bitAt, Nat.reduceLT]
    unfold kept32
    split_ifs <;> grind
  · rw [BitVec.getLsbD_of_ge _ _ (Nat.le_of_not_lt hk), kept32_of_ge c (Nat.le_of_not_lt hk)]

/-- Bit 4 selects the AArch64 layout. -/
theorem res0Mask_of_layout64 {v : Word} (h : v.getLsbD 4 = false) (c : Config) :
    res0Mask c v = v &&& dspsrKeep64 c := by
  simp only [res0Mask, h, Bool.false_eq_true, if_false]

/-- The AArch32 layout with E set, clear or kept, by the byte orders supported. -/
theorem res0Mask_of_layout32 {v : Word} (h : v.getLsbD 4 = true) (c : Config) :
    res0Mask c v =
      if c.littleEndian = false then (v &&& dspsrKeep32 c) ||| bitAt true 9
      else if c.bigEndian = false then v &&& dspsrKeep32 c &&& ~~~(bitAt true 9)
      else v &&& dspsrKeep32 c := by
  simp only [res0Mask, h, if_true, Bool.not_eq_true']

/-- The bits of the AArch64 layout (R48, R183). -/
theorem getLsbD_res0Mask_layout64 {v : Word} (h : v.getLsbD 4 = false) (c : Config) (k : Nat) :
    (res0Mask c v).getLsbD k = (v.getLsbD k && kept64 c k) := by
  rw [res0Mask_of_layout64 h, BitVec.getLsbD_and, getLsbD_dspsrKeep64]

/-- The bits of the AArch32 layout but E (R47, R183). -/
theorem getLsbD_res0Mask_layout32 {v : Word} (h : v.getLsbD 4 = true) (c : Config) {k : Nat} (hk : k ≠ 9) :
    (res0Mask c v).getLsbD k = (v.getLsbD k && kept32 c k) := by
  have hE : (bitAt true 9).getLsbD k = false := by rw [getLsbD_bitAt (by decide), decide_eq_false hk, Bool.and_false]
  rw [res0Mask_of_layout32 h]
  split_ifs
  · rw [BitVec.getLsbD_or, BitVec.getLsbD_and, getLsbD_dspsrKeep32, hE, Bool.or_false]
  · by_cases hlt : k < 64
    · simp only [BitVec.getLsbD_and, BitVec.getLsbD_not, getLsbD_dspsrKeep32, hE, hlt, decide_true, Bool.not_false,
        Bool.and_true]
    · simp [BitVec.getLsbD_of_ge v k (Nat.le_of_not_lt hlt)]
  · rw [BitVec.getLsbD_and, getLsbD_dspsrKeep32]

/-- E in the AArch32 layout (R47). -/
theorem getLsbD_res0Mask_layout32_E {v : Word} (h : v.getLsbD 4 = true) (c : Config) :
    (res0Mask c v).getLsbD 9 = (!c.littleEndian || (c.bigEndian && v.getLsbD 9)) := by
  have hkept : (dspsrKeep32 c).getLsbD 9 = true := by rw [getLsbD_dspsrKeep32]; rfl
  have hE : (bitAt true 9).getLsbD 9 = true := rfl
  rw [res0Mask_of_layout32 h]
  split_ifs with hle hbe
  · simp only [BitVec.getLsbD_or, hE, hle, Bool.or_true, Bool.not_false, Bool.true_or]
  · rw [Bool.not_eq_false] at hle
    simp only [BitVec.getLsbD_and, BitVec.getLsbD_not, hE, hle, hbe, Bool.not_true, Bool.and_false, Bool.false_and,
      Bool.or_false]
  · rw [Bool.not_eq_false] at hle hbe
    simp only [BitVec.getLsbD_and, hkept, hle, hbe, Bool.not_true, Bool.and_true, Bool.true_and, Bool.false_or]

/-- Setting a bit after masking, again, changes nothing. -/
theorem and_or_idem (v m b : Word) : (((v &&& m) ||| b) &&& m) ||| b = (v &&& m) ||| b := by
  ext k hk
  simp only [BitVec.getElem_or, BitVec.getElem_and]
  cases v[k] <;> cases m[k] <;> cases b[k] <;> rfl

theorem and_and_idem (v m b : Word) : (v &&& m &&& b) &&& m &&& b = v &&& m &&& b := by
  ext k hk
  simp only [BitVec.getElem_and]
  cases v[k] <;> cases m[k] <;> cases b[k] <;> rfl

/-- Masking keeps the layout, so masking twice is masking once (R183). -/
theorem res0Mask_idem (c : Config) (v : Word) : res0Mask c (res0Mask c v) = res0Mask c v := by
  cases h : v.getLsbD 4 with
  | false =>
    have h' : (res0Mask c v).getLsbD 4 = false := by rw [getLsbD_res0Mask_layout64 h, h, Bool.false_and]
    rw [res0Mask_of_layout64 h', res0Mask_of_layout64 h, BitVec.and_assoc, BitVec.and_self]
  | true =>
    have h' : (res0Mask c v).getLsbD 4 = true := by
      rw [getLsbD_res0Mask_layout32 h c (by decide), h]
      rfl
    rw [res0Mask_of_layout32 h', res0Mask_of_layout32 h]
    split_ifs
    · exact and_or_idem _ _ _
    · exact and_and_idem _ _ _
    · rw [BitVec.and_assoc, BitVec.and_self]

/-- Settles O47: bit by bit, then idempotence. -/
theorem res0MaskKeepsExactlyTheLayoutsBits : Obligations.Res0MaskKeepsExactlyTheLayoutsBits := by
  unfold Obligations.Res0MaskKeepsExactlyTheLayoutsBits
  exact fun c v => ⟨fun h k => getLsbD_res0Mask_layout64 h c k, fun h k hk => getLsbD_res0Mask_layout32 h c hk,
    fun h _ => getLsbD_res0Mask_layout32_E h c, res0Mask_idem c v⟩

/-- The saved PSTATE bit by bit (R186). -/
theorem getLsbD_savedPState (c : Config) (p : PState) (k : Nat) :
    (savedPState c p).getLsbD k =
      (c.featCSRE && p.csr && decide (k = 32) || p.n && decide (k = 31) || p.z && decide (k = 30)
        || p.c && decide (k = 29) || p.v && decide (k = 28) || c.featMTE && p.tco && decide (k = 25)
        || c.featDIT && p.dit && decide (k = 24) || c.featUAO && p.uao && decide (k = 23)
        || c.featPAN && p.pan && decide (k = 22) || p.ss && decide (k = 21) || p.il && decide (k = 20)
        || c.featSSBS && p.ssbs && decide (k = 12) || c.featBTI && p.btype.getLsbD 1 && decide (k = 11)
        || c.featBTI && p.btype.getLsbD 0 && decide (k = 10) || p.d && decide (k = 9) || p.a && decide (k = 8)
        || p.i && decide (k = 7) || p.f && decide (k = 6) || (elBits p.el).getLsbD 1 && decide (k = 3)
        || (elBits p.el).getLsbD 0 && decide (k = 2) || p.sp && decide (k = 0)) := by
  simp only [savedPState, BitVec.getLsbD_or, getLsbD_bitAt, Nat.reduceLT]

/-- What is saved has 0 in every bit R186 does not name. -/
theorem getLsbD_savedPState_other (c : Config) (p : PState) {k : Nat}
    (hk : 33 ≤ k ∨ k = 27 ∨ k = 26 ∨ (13 ≤ k ∧ k ≤ 19) ∨ k = 5 ∨ k = 4 ∨ k = 1) :
    (savedPState c p).getLsbD k = false := by
  have hne : ∀ n ∈ [32, 31, 30, 29, 28, 25, 24, 23, 22, 21, 20, 12, 11, 10, 9, 8, 7, 6, 3, 2, 0], k ≠ n := by
    rintro n hn rfl
    simp at hn
    omega
  simp only [List.forall_mem_cons] at hne
  simp [getLsbD_savedPState, hne]

/-- Every bit saved is one the AArch64 layout keeps. -/
theorem kept64_of_getLsbD_savedPState (c : Config) (p : PState) (k : Nat) (h : (savedPState c p).getLsbD k = true) :
    kept64 c k = true := by
  rw [getLsbD_savedPState] at h
  unfold kept64
  split_ifs with h32 h25 h24 h23 h22 h12 hbti
  · simp_all
  · simp_all
  · simp_all
  · simp_all
  · simp_all
  · simp_all
  · obtain rfl | rfl := hbti <;> simp_all
  · simp_all
    omega

/-- What is saved is a value of DSPSR_EL0 in the AArch64 layout: its RES0 bits are 0 (R183, R186). -/
theorem res0Mask_savedPState (c : Config) (p : PState) : res0Mask c (savedPState c p) = savedPState c p := by
  have h4 := getLsbD_savedPState_other c p (k := 4) (by omega)
  refine BitVec.eq_of_getLsbD_eq fun k _ => ?_
  rw [getLsbD_res0Mask_layout64 h4]
  cases hk : (savedPState c p).getLsbD k with
  | false => rfl
  | true => rw [kept64_of_getLsbD_savedPState c p k hk]; rfl

end Sys2Proof.Machine
end

section
/-! Entering and leaving Debug state (42_dspsr.md R186 to R188). -/

namespace Sys2Proof.Machine

section Saved

variable (c : Config) (p : PState)

/-- BTYPE as it is saved. -/
theorem savedPState_btype : (savedPState c p).extractLsb' 10 2 = if c.featBTI then p.btype else 0 := by
  refine BitVec.eq_of_getLsbD_eq fun k hk => ?_
  obtain rfl | rfl : k = 0 ∨ k = 1 := by omega
  · cases hb : c.featBTI <;> simp only [BitVec.getLsbD_extractLsb', getLsbD_savedPState, hb] <;> simp
  · cases hb : c.featBTI <;> simp only [BitVec.getLsbD_extractLsb', getLsbD_savedPState, hb] <;> simp

/-- The Exception level as it is saved. -/
theorem savedPState_el : (savedPState c p).extractLsb' 2 2 = elBits p.el := by
  refine BitVec.eq_of_getLsbD_eq fun k hk => ?_
  obtain rfl | rfl : k = 0 ∨ k = 1 := by omega
  · simp only [BitVec.getLsbD_extractLsb', getLsbD_savedPState]; simp
  · simp only [BitVec.getLsbD_extractLsb', getLsbD_savedPState]; simp

/-- M[3:0] as it is saved: the level, 0, and the stack pointer bit (R48). -/
theorem savedPState_mode : (savedPState c p).extractLsb' 0 4 = elBits p.el ++ 0#1 ++ BitVec.ofBool p.sp := by
  refine BitVec.eq_of_getLsbD_eq fun k hk => ?_
  obtain rfl | rfl | rfl | rfl : k = 0 ∨ k = 1 ∨ k = 2 ∨ k = 3 := by omega
  all_goals simp only [BitVec.getLsbD_extractLsb', getLsbD_savedPState, BitVec.getLsbD_append]; simp

end Saved

theorem elOfBits_elBits (e : EL) : elOfBits (elBits e) = e := by
  cases e <;> rfl

theorem elNumber_elOfBits (b : BitVec 2) : elNumber (elOfBits b) = b.toNat := by
  revert b; decide

theorem elOfBits_eq_el2_iff (b : BitVec 2) : elOfBits b = .el2 ↔ b = 0b10 := by
  revert b; decide

theorem modeLegal64_iff (c : Config) (m : BitVec 4) : modeLegal64 c m = true ↔ ReturnableMode c m := by
  simp [modeLegal64, ReturnableMode, or_assoc]

/-- The reserved modes of the AArch32 layout (R47). -/
theorem modeListed32_eq_false_iff (m : BitVec 4) :
    modeListed32 m = false ↔ m ∈ ([0b0100, 0b0101, 0b1000, 0b1001, 0b1100, 0b1101, 0b1110] : List (BitVec 4)) := by
  revert m; decide

variable {s : State} {rest : List HostMove}

/-- Entry from AArch64 state outside Debug state completes (R186). -/
theorem step_enterDebug (ha : StateAdmitted s) (hi : s.inputs = .enterDebug :: rest) (hh : s.halted = false)
    (hw : s.pstate.nRW = false) (h64 : s.cfg.aarch64Supported = true) :
    step s = .next (((s.setInputs rest).setDspsr (savedPState s.cfg s.pstate)).setHalted true) := by
  rw [step_of_stateAdmitted ha hi]
  simp [runMove, enterDebug, hh, hw, h64]

/-- Settles O43: the one completion, bit by bit. -/
theorem enteringDebugStateSavesPstate : Obligations.EnteringDebugStateSavesPstate := by
  unfold Obligations.EnteringDebugStateSavesPstate
  intro s rest ha hi hh hw h64
  refine ⟨_, step_enterDebug ha hi hh hw h64, rfl, rfl, rfl, rfl, rfl, rfl, rfl, rfl, rfl, rfl, ?_⟩
  have hother := fun k => getLsbD_savedPState_other s.cfg s.pstate (k := k)
  simp only [State.setHalted_dspsr, State.setDspsr_dspsr, savedPState_btype, savedPState_el]
  simp only [← and_assoc]
  refine ⟨?_, hother⟩
  simp only [getLsbD_savedPState]
  simp [elNumber]

/-- The state a Debug state exit to AArch64 leaves, under the choice of PSTATE.SS it draws (R187). -/
def exitedState (s : State) : State :=
  ((s.setPstate (restoredPState s.cfg (Config.ssChoice s.draws) s.dspsr s.pstate)).setHalted false).bumpDraws

/-- The level an exit restores is EL2 exactly where the saved bits say so, so R43 is asked again there only. -/
theorem stateAdmitted_exitedState (ha : StateAdmitted s)
    (h2 : s.dspsr.extractLsb' 2 2 = 0b10 → HpmnAdmitted s) : StateAdmitted (exitedState s) := by
  intro he
  have he : (s.cfg.haveEL2 && (s.ctl.el2On || decide (elOfBits (s.dspsr.extractLsb' 2 2) = .el2))) = true := he
  simp only [Bool.and_eq_true, Bool.or_eq_true, decide_eq_true_eq, elOfBits_eq_el2_iff] at he
  obtain ⟨hhave, hon | hbits⟩ := he
  · exact ha (by simp [pseudoEL2Enabled, hhave, hon])
  · exact h2 hbits

/-- Leaving Debug state by a mode that is no illegal return asks R43 of the state it would leave (R187, D10). -/
theorem step_exitDebug_of_returnable (ha : StateAdmitted s) (hi : s.inputs = .exitDebug :: rest)
    (hh : s.halted = true) (h64 : s.cfg.aarch64Supported = true) (h4 : s.dspsr.getLsbD 4 = false)
    (hm : ReturnableMode s.cfg (s.dspsr.extractLsb' 0 4)) :
    step s = nextIfAdmitted (exitedState (s.setInputs rest)) := by
  have hm := (modeLegal64_iff _ _).mpr hm
  rw [step_of_stateAdmitted ha hi]
  simp only [runMove, exitDebug, exitToAArch64, State.setInputs_halted, State.setInputs_dspsr, State.setInputs_cfg,
    State.setInputs_draws, hh, h64, h4, hm, Bool.not_true, Bool.false_eq_true, if_false]
  rfl

theorem nextIfAdmitted_of_stateAdmitted {s : State} (h : StateAdmitted s) : nextIfAdmitted s = .next s := by
  rw [nextIfAdmitted, (stateAdmitted_iff s).mp h]
  rfl

theorem nextIfAdmitted_of_not_stateAdmitted {s : State} (h : ¬StateAdmitted s) :
    nextIfAdmitted s = .refused .hpmnOutOfRange := by
  rw [stateAdmitted_iff, Bool.not_eq_false] at h
  rw [nextIfAdmitted, if_pos h]

/-- Exit to AArch64 state completes where R43 admits the level restored. -/
theorem step_exitDebug (ha : StateAdmitted s) (hi : s.inputs = .exitDebug :: rest)
    (hh : s.halted = true) (h64 : s.cfg.aarch64Supported = true) (h4 : s.dspsr.getLsbD 4 = false)
    (hm : ReturnableMode s.cfg (s.dspsr.extractLsb' 0 4)) (h2 : s.dspsr.extractLsb' 2 2 = 0b10 → HpmnAdmitted s) :
    step s = .next (exitedState (s.setInputs rest)) := by
  rw [step_exitDebug_of_returnable ha hi hh h64 h4 hm]
  exact nextIfAdmitted_of_stateAdmitted (stateAdmitted_exitedState (s := s.setInputs rest) ha h2)

/-- PSTATE.SS after an exit is one of the three values (R187 item 1). -/
theorem ssAfterExit_cases (choice : SsChoice) (previous saved : Bool) :
    ssAfterExit choice previous saved = previous ∨ ssAfterExit choice previous saved = saved
      ∨ ssAfterExit choice previous saved = false := by
  cases choice
  · exact .inl rfl
  · exact .inr (.inl rfl)
  · exact .inr (.inr rfl)

/-- Settles O44: the one completion, field by field. -/
theorem leavingDebugStateRestoresPstate : Obligations.LeavingDebugStateRestoresPstate := by
  unfold Obligations.LeavingDebugStateRestoresPstate
  intro s rest ha hi hh h64 h4 hm h2
  exact ⟨_, step_exitDebug ha hi hh h64 h4 hm h2, rfl, rfl, rfl, rfl, rfl, rfl, rfl, rfl, rfl, rfl, rfl, rfl, rfl, rfl,
    rfl, rfl, rfl, rfl, rfl, h4, elNumber_elOfBits _, rfl, rfl, rfl, rfl, rfl, rfl, rfl, rfl, ssAfterExit_cases _ _ _⟩

/-- What a legal PSTATE saves is a mode that an exit returns to: the level is implemented, and EL0 has SP 0 (R48). -/
theorem returnableMode_savedPState {a : Arch} {c : Config} (h : Arch.ModeLegal c a) :
    ReturnableMode c ((savedPState c a.pstate).extractLsb' 0 4) := by
  obtain ⟨hel, hsp, -, -⟩ := h
  rw [savedPState_mode]
  obtain h | h | h | h := el_cases a.pstate.el
  · rw [h, hsp h]
    exact .inl rfl
  · rw [h]
    cases a.pstate.sp
    · exact .inr (.inl rfl)
    · exact .inr (.inr (.inl rfl))
  · rw [h] at hel ⊢
    cases a.pstate.sp
    · exact .inr (.inr (.inr (.inl ⟨hel, .inl rfl⟩)))
    · exact .inr (.inr (.inr (.inl ⟨hel, .inr rfl⟩)))
  · rw [h] at hel ⊢
    cases a.pstate.sp
    · exact .inr (.inr (.inr (.inr ⟨hel, .inl rfl⟩)))
    · exact .inr (.inr (.inr (.inr ⟨hel, .inr rfl⟩)))

/-- A gated field restored from what was saved. -/
theorem restored_gated_bit (f b : Bool) : (if f then f && b else b) = b := by
  cases f <;> rfl

theorem restored_gated_field (f : Bool) (b : BitVec 2) : (if f then if f then b else 0 else b) = b := by
  cases f <;> rfl

/-- Restoring what was saved gives PSTATE back but for SS: a field whose feature is absent is left (R186, R187). -/
theorem restoredPState_savedPState (c : Config) (choice : SsChoice) {p : PState} (hw : p.nRW = false) :
    { restoredPState c choice (savedPState c p) p with ss := p.ss } = p := by
  simp only [restoredPState, savedPState_el, elOfBits_elBits, savedPState_btype, getLsbD_savedPState, Nat.reduceEqDiff,
    decide_true, decide_false, Bool.and_false, Bool.and_true, Bool.or_false, Bool.false_or, restored_gated_bit,
    restored_gated_field, OfNat.ofNat_ne_zero]
  rw [← hw]

/-- Settles O45: what entry saves, exit restores. -/
theorem entryThenExitRestoresPstate : Obligations.EntryThenExitRestoresPstate := by
  unfold Obligations.EntryThenExitRestoresPstate
  intro s rest hlegal hi hh h64
  obtain ⟨hmode, -, -, -, hhpmn⟩ := hlegal
  have ha : StateAdmitted s := (stateAdmitted_iff s).mpr hhpmn
  have hback := returnableMode_savedPState hmode
  obtain ⟨himpl, -, hw, -⟩ := hmode
  let s1 := ((s.setInputs (.exitDebug :: rest)).setDspsr (savedPState s.cfg s.pstate)).setHalted true
  have h2 : s1.dspsr.extractLsb' 2 2 = 0b10 → HpmnAdmitted s1 := fun hbits => by
    have hel : s.pstate.el = .el2 := by
      rw [← elOfBits_elBits s.pstate.el, elOfBits_eq_el2_iff, ← savedPState_el s.cfg]
      exact hbits
    have hhave : s.cfg.haveEL2 = true := by rwa [hel] at himpl
    exact ha (by simp [pseudoEL2Enabled, hel, hhave])
  refine ⟨s1, _, step_enterDebug ha hi hh hw h64, step_exitDebug (s := s1) ha rfl rfl h64
    (getLsbD_savedPState_other _ _ (by omega)) hback h2, rfl, ?_, ?_⟩
  · exact restoredPState_savedPState s.cfg _ hw
  · show { s.toArch with halted := false } = s.toArch
    rw [← hh]

/-- An exit to AArch32 state with a listed mode is refused with the PSTATE its copies give (R188, D18). -/
theorem step_exitDebug_aarch32 (ha : StateAdmitted s) (hi : s.inputs = .exitDebug :: rest) (hh : s.halted = true)
    (h4 : s.dspsr.getLsbD 4 = true) : step s = exitToAArch32 (s.setInputs rest) := by
  rw [step_of_stateAdmitted ha hi]
  simp only [runMove, exitDebug, State.setInputs_halted, State.setInputs_dspsr, hh, h4, Bool.not_true,
    Bool.false_eq_true, if_true, if_false]

theorem step_exitDebug_aarch64 (ha : StateAdmitted s) (hi : s.inputs = .exitDebug :: rest) (hh : s.halted = true)
    (h4 : s.dspsr.getLsbD 4 = false) : step s = exitToAArch64 (Config.ssChoice s.draws) (s.setInputs rest) := by
  rw [step_of_stateAdmitted ha hi]
  simp only [runMove, exitDebug, State.setInputs_halted, State.setInputs_dspsr, State.setInputs_draws, hh, h4,
    Bool.not_true, Bool.false_eq_true, if_false]

/-- Settles O46: the refusals of entry and exit in the order the moves make their checks. -/
theorem illegalAndAArch32ExitsAreRefused : Obligations.IllegalAndAArch32ExitsAreRefused := by
  unfold Obligations.IllegalAndAArch32ExitsAreRefused
  intro s rest ha
  refine ⟨fun hi => ⟨fun hh => ?_, fun hh hw => ?_, fun hh hw h64 => ?_⟩, fun hi => ⟨fun hh => ?_,
    fun hh h4 => ⟨fun h64 => ?_, fun h64 hm => ?_⟩, fun hh h4 => ⟨fun h32 => ?_, fun h32 hm => ?_, fun h32 hm => ?_⟩⟩⟩
  · rw [step_of_stateAdmitted ha hi]
    simp [runMove, enterDebug, hh]
  · rw [step_of_stateAdmitted ha hi]
    simp [runMove, enterDebug, hh, hw]
  · rw [step_of_stateAdmitted ha hi]
    simp [runMove, enterDebug, hh, hw, h64]
  · rw [step_of_stateAdmitted ha hi]
    simp [runMove, exitDebug, hh]
  · rw [step_exitDebug_aarch64 ha hi hh h4]
    simp [exitToAArch64, h64]
  · have hm : modeLegal64 s.cfg (s.dspsr.extractLsb' 0 4) = false := by
      rwa [← modeLegal64_iff, Bool.not_eq_true] at hm
    rw [step_exitDebug_aarch64 ha hi hh h4]
    simp [exitToAArch64, h64, hm]
  · rw [step_exitDebug_aarch32 ha hi hh h4]
    simp [exitToAArch32, h32]
  · rw [step_exitDebug_aarch32 ha hi hh h4]
    simp [exitToAArch32, h32, (modeListed32_eq_false_iff _).mpr hm]
  · have hm : modeListed32 (s.dspsr.extractLsb' 0 4) = true := by
      rwa [← modeListed32_eq_false_iff, Bool.not_eq_false] at hm
    refine ⟨restoredPState32 s.cfg s.dspsr s.pstate, ?_, h4, rfl, rfl, rfl, rfl, rfl, rfl, rfl, rfl, rfl,
      BitVec.extractLsb'_append_eq_left, BitVec.extractLsb'_append_eq_right, rfl, rfl, rfl, rfl, rfl, rfl, rfl, rfl⟩
    rw [step_exitDebug_aarch32 ha hi hh h4]
    simp [exitToAArch32, h32, hm]

end Sys2Proof.Machine
end

section
/-! The PMU's moves: the cycle filter and the counters (60_exceptions.md section 7). -/

namespace Sys2Proof.Machine

/-- At EL0 and EL1 outside Secure state, with base bit `u` and comparison bit `n`: the readings differ exactly where
both are set, and there reading A filters (R222). -/
theorem readings_differ_below_el2 (u n : Bool) :
    ((u || n != u) ≠ (u != n) ↔ u = true ∧ n = true) ∧ (u = true ∧ n = true → (u || n != u) = true ∧ (u != n) = false) := by
  revert u n; decide

/-- At EL2 outside Non-secure state, with base bit `h` and comparison bit `x` (R222). -/
theorem readings_differ_at_el2 (h x : Bool) :
    ((!h || x == h) ≠ (h == x) ↔ h = false ∧ x = true)
      ∧ (h = false ∧ x = true → (!h || x == h) = true ∧ (h == x) = false) := by
  revert h x; decide

theorem security_beq (a b : Security) : (a == b) = decide (a = b) := by
  cases a <;> cases b <;> rfl

/-- Settles O48: in each of the six pairs of a level and a Security state by the two bits' truth table; in the others
the readings agree. -/
theorem filterReadingsDifferExactlyInSixCases : Obligations.FilterReadingsDifferExactlyInSixCases := by
  unfold Obligations.FilterReadingsDifferExactlyInSixCases
  intro f el ss
  have h0n := readings_differ_below_el2 (f.getLsbD 30) (f.getLsbD 28)
  have h0r := readings_differ_below_el2 (f.getLsbD 30) (f.getLsbD 21)
  have h1n := readings_differ_below_el2 (f.getLsbD 31) (f.getLsbD 29)
  have h1r := readings_differ_below_el2 (f.getLsbD 31) (f.getLsbD 22)
  have h2s := readings_differ_at_el2 (f.getLsbD 27) (f.getLsbD 24)
  have h2r := readings_differ_at_el2 (f.getLsbD 27) (f.getLsbD 20)
  cases el with
  | el0 => cases ss with
    | secure => simp [cycleFilteredReadingA, cycleFiltered, FilterReadingsDiffer, security_beq]
    | nonSecure => simpa [cycleFilteredReadingA, cycleFiltered, FilterReadingsDiffer, security_beq, filterU, filterNSU] using h0n
    | realm => simpa [cycleFilteredReadingA, cycleFiltered, FilterReadingsDiffer, security_beq, filterU, filterRLU] using h0r
  | el1 => cases ss with
    | secure => simp [cycleFilteredReadingA, cycleFiltered, FilterReadingsDiffer, security_beq]
    | nonSecure => simpa [cycleFilteredReadingA, cycleFiltered, FilterReadingsDiffer, security_beq, filterP, filterNSK] using h1n
    | realm => simpa [cycleFilteredReadingA, cycleFiltered, FilterReadingsDiffer, security_beq, filterP, filterRLK] using h1r
  | el2 => cases ss with
    | secure => simpa [cycleFilteredReadingA, cycleFiltered, FilterReadingsDiffer, security_beq, filterNSH, filterSH] using h2s
    | nonSecure => simp [cycleFilteredReadingA, cycleFiltered, FilterReadingsDiffer, security_beq]
    | realm => simpa [cycleFilteredReadingA, cycleFiltered, FilterReadingsDiffer, security_beq, filterNSH, filterRLH] using h2r
  | el3 => simp [cycleFilteredReadingA, cycleFiltered, FilterReadingsDiffer]

/-- The adopted reading written out over the bits (R222). -/
theorem cycleFiltered_iff (f : Word) (el : EL) (ss : Security) :
    cycleFiltered f el ss = true ↔
      (el = .el0 ∧ ss = .secure ∧ f.getLsbD 30 = true)
      ∨ (el = .el0 ∧ ss = .nonSecure ∧ f.getLsbD 30 ≠ f.getLsbD 28)
      ∨ (el = .el0 ∧ ss = .realm ∧ f.getLsbD 30 ≠ f.getLsbD 21)
      ∨ (el = .el1 ∧ ss = .secure ∧ f.getLsbD 31 = true)
      ∨ (el = .el1 ∧ ss = .nonSecure ∧ f.getLsbD 31 ≠ f.getLsbD 29)
      ∨ (el = .el1 ∧ ss = .realm ∧ f.getLsbD 31 ≠ f.getLsbD 22)
      ∨ (el = .el2 ∧ ss = .nonSecure ∧ f.getLsbD 27 = false)
      ∨ (el = .el2 ∧ ss = .secure ∧ f.getLsbD 27 = f.getLsbD 24)
      ∨ (el = .el2 ∧ ss = .realm ∧ f.getLsbD 27 = f.getLsbD 20)
      ∨ (el = .el3 ∧ f.getLsbD 26 ≠ f.getLsbD 31) := by
  cases el <;> cases ss <;>
    simp [cycleFiltered, filterU, filterP, filterNSH, filterM, filterNSU, filterNSK, filterSH, filterRLU, filterRLK,
      filterRLH]

/-- Settles O49: the move is filtered by the machine's own reading. -/
theorem filteredCycleCounterDoesNotChange : Obligations.FilteredCycleCounterDoesNotChange := by
  unfold Obligations.FilteredCycleCounterDoesNotChange
  intro s v rest ha hi
  rw [step_of_stateAdmitted ha hi]
  simp only [← cycleFiltered_iff, runMove, pmuCycle, Bool.or_eq_true, State.setInputs_cfg, State.setInputs_pmccfiltr,
    State.setInputs_pstate, State.setInputs_security]
  split <;> rfl

/-- Settles O50: the three outcomes of the move. -/
theorem pmuChangesOneImplementedCounter : Obligations.PmuChangesOneImplementedCounter := by
  unfold Obligations.PmuChangesOneImplementedCounter
  intro s n v rest ha hi
  rw [step_of_stateAdmitted ha hi]
  refine ⟨fun hn hf => ?_, fun hn hf => ?_, fun hn => ?_⟩
  · have hraw := fun m => State.rawEvcntr_writeCounter (s.setInputs rest) n m v (lt_31_of_lt_numCounters hn)
    refine ⟨(s.setInputs rest).writeCounter n v, by simp [runMove, pmuCount, hn, hf], ?_, fun m hm => ?_, rfl⟩
    · rw [hraw, if_pos rfl]
      exact counterValue_eq_ite s.cfg v
    · rw [hraw, if_neg hm]
      rfl
  · simp [runMove, pmuCount, hn, hf]
  · simp [runMove, pmuCount, Nat.not_lt.mpr hn]

end Sys2Proof.Machine
end

section
/-! The external agent's accesses to PMCCFILTR_EL0 (20_memory.md sections 1 and 2). -/

namespace Sys2Proof.Machine

variable {s : State} {rest : List HostMove}

/-- The rows of R74 with their offsets and sizes. -/
def ExtView.offset : ExtView → Nat
  | .low => 0x47C
  | .whole => 0x4F8
  | .high => 0xA7C

def ExtView.size : ExtView → Nat
  | .low => 32
  | .whole => 64
  | .high => 32

theorem extViewOf_eq_some_iff {off bits : Nat} {v : ExtView} :
    extViewOf off bits = some v ↔ off = v.offset ∧ bits = v.size := by
  unfold extViewOf
  cases v <;> split_ifs <;> simp_all [ExtView.offset, ExtView.size]

/-- An address and a size are a row exactly when they are those of one of its views. -/
theorem isExtRow_iff {c : Config} {addr bits : Nat} :
    IsExtRow c addr bits ↔ ∃ v : ExtView, addr = c.pmuBase + v.offset ∧ bits = v.size := by
  constructor
  · rintro (⟨rfl, rfl⟩ | ⟨rfl, rfl⟩ | ⟨rfl, rfl⟩)
    · exact ⟨.low, rfl, rfl⟩
    · exact ⟨.whole, rfl, rfl⟩
    · exact ⟨.high, rfl, rfl⟩
  · rintro ⟨v, rfl, rfl⟩
    cases v
    · exact .inl ⟨rfl, rfl⟩
    · exact .inr (.inl ⟨rfl, rfl⟩)
    · exact .inr (.inr ⟨rfl, rfl⟩)

section Checks

variable (s) (v : ExtView) (w : Bool)

/-- An access at a row's address without FEAT_PMUv3_EXT is RES0 (R74). -/
theorem checkExtAccess_res0 (hx : s.cfg.featPMUv3EXT = false) :
    checkExtAccess s (s.cfg.pmuBase + v.offset) v.size w = .res0 := by
  simp [checkExtAccess, pmuOffset, extViewOf_eq_some_iff.mpr ⟨rfl, rfl⟩, hx]

/-- An access to an absent row is refused by the row's own reason (R74, I4). -/
theorem checkExtAccess_absent (hx : s.cfg.featPMUv3EXT = true) {r : Refusal} (hr : extAbsent s.cfg v = some r) :
    checkExtAccess s (s.cfg.pmuBase + v.offset) v.size w = .refuse r := by
  simp [checkExtAccess, pmuOffset, extViewOf_eq_some_iff.mpr ⟨rfl, rfl⟩, hx, hr]

/-- An access to a present row asks for the permission (R75). -/
theorem checkExtAccess_present (hx : s.cfg.featPMUv3EXT = true) (hr : extAbsent s.cfg v = none) :
    checkExtAccess s (s.cfg.pmuBase + v.offset) v.size w =
      if (v.offset, w) ∈ s.extAllowed then .reach v else .refuse .extNotAllowed := by
  simp [checkExtAccess, pmuOffset, extViewOf_eq_some_iff.mpr ⟨rfl, rfl⟩, hx, hr, State.extAccessAllowed]

/-- An access that is no row is refused by its address and size, below PMU_BASE too (R77, D13). -/
theorem checkExtAccess_no_row {addr bits : Nat} (h : ¬IsExtRow s.cfg addr bits) :
    checkExtAccess s addr bits w = .refuse (.extNoSuchAccess addr bits) := by
  by_cases hb : s.cfg.pmuBase ≤ addr
  · have hview : extViewOf (addr - s.cfg.pmuBase) bits = none := by
      refine Option.eq_none_iff_forall_ne_some.mpr fun v hv => h (isExtRow_iff.mpr ⟨v, ?_⟩)
      obtain ⟨hoff, hbits⟩ := extViewOf_eq_some_iff.mp hv
      exact ⟨by omega, hbits⟩
    simp [checkExtAccess, pmuOffset, hb, hview]
  · simp [checkExtAccess, pmuOffset, hb]

end Checks

theorem highHalfPresent_iff (c : Config) :
    (c.featPMUv3EXT32 && (c.featPMUv3TH || c.featPMUv3p8)) = true ↔ HighHalfPresent c := by
  simp only [Bool.and_eq_true, Bool.or_eq_true]

/-- A row is present where the condition at its address holds (R74). -/
theorem extAbsent_eq_none {c : Config} {v : ExtView} (h : ExtRowPresent c (c.pmuBase + v.offset)) :
    extAbsent c v = none := by
  obtain ⟨hlow, hwhole, hhigh⟩ := h
  cases v with
  | low => exact if_pos (hlow rfl)
  | whole => exact if_pos (hwhole rfl)
  | high => exact if_pos ((highHalfPresent_iff c).mpr (hhigh rfl))

/-- A read at a row it is let through to (R75). -/
theorem step_extRead_reach (ha : StateAdmitted s) (v : ExtView)
    (hi : s.inputs = .extRead (s.cfg.pmuBase + v.offset) v.size :: rest) (hx : s.cfg.featPMUv3EXT = true)
    (hr : extAbsent s.cfg v = none) (hp : (v.offset, false) ∈ s.extAllowed) :
    step s = .next ((s.setInputs rest).setExtReadData (extValue v s.pmccfiltr)) := by
  have hv : checkExtAccess (s.setInputs rest) (s.cfg.pmuBase + v.offset) v.size false = .reach v :=
    (checkExtAccess_present (s.setInputs rest) v false hx hr).trans (if_pos hp)
  rw [step_of_stateAdmitted ha hi]
  simp only [runMove, extRead, hv, State.setInputs_pmccfiltr]

/-- A write at a row it is let through to (R75). -/
theorem step_extWrite_reach (ha : StateAdmitted s) (v : ExtView) (d : Word)
    (hi : s.inputs = .extWrite (s.cfg.pmuBase + v.offset) v.size d :: rest) (hx : s.cfg.featPMUv3EXT = true)
    (hr : extAbsent s.cfg v = none) (hp : (v.offset, true) ∈ s.extAllowed) :
    step s = .next ((s.setInputs rest).setPmccfiltr (extReplaced v s.pmccfiltr d &&& pmccfiltrKeep s.cfg)) := by
  have hv : checkExtAccess (s.setInputs rest) (s.cfg.pmuBase + v.offset) v.size true = .reach v :=
    (checkExtAccess_present (s.setInputs rest) v true hx hr).trans (if_pos hp)
  rw [step_of_stateAdmitted ha hi]
  simp only [runMove, extWrite, hv]
  rfl

/-- Settles O51: the three rows. -/
theorem externalReadReturnsItsRow : Obligations.ExternalReadReturnsItsRow := by
  unfold Obligations.ExternalReadReturnsItsRow
  intro s rest ha hx
  refine ⟨fun hi h32 hp => ?_, fun hi h64 hp => ?_, fun hi h32 hth hp => ?_⟩
  · rw [← low_half_eq_and]
    exact step_extRead_reach ha .low hi hx (if_pos h32) hp
  · exact step_extRead_reach ha .whole hi hx (if_pos h64) hp
  · rw [← high_half_eq_shift]
    exact step_extRead_reach ha .high hi hx (if_pos ((highHalfPresent_iff _).mpr ⟨h32, hth⟩)) hp

theorem getLsbD_lowMask : ∀ k < 64, (0xFFFFFFFF : Word).getLsbD k = decide (k < 32) := by
  decide

/-- The low row's write: the high half is kept, the low half is the value's, RES0 bits 0 (R75). -/
theorem extReplaced_low {f m : Word} (hf : f &&& m = f) (d : Word) :
    (extReplaced .low f d &&& m) >>> 32 = f >>> 32
      ∧ (extReplaced .low f d &&& m) &&& 0xFFFFFFFF = d &&& 0xFFFFFFFF &&& m := by
  have hbit : ∀ k, (f.getLsbD k && m.getLsbD k) = f.getLsbD k := fun k => by rw [← BitVec.getLsbD_and, hf]
  constructor
  · refine BitVec.eq_of_getLsbD_eq fun k hk => ?_
    simp only [extReplaced, BitVec.getLsbD_ushiftRight, BitVec.getLsbD_and, BitVec.getLsbD_append,
      BitVec.getLsbD_extractLsb', show ¬(32 + k < 32) by omega, if_false, Nat.add_sub_cancel_left]
    by_cases h : k < 32
    · simp only [h, decide_true, Bool.true_and, hbit]
    · simp [h, BitVec.getLsbD_of_ge f (32 + k) (by omega)]
  · refine BitVec.eq_of_getLsbD_eq fun k hk => ?_
    simp only [extReplaced, BitVec.getLsbD_and, BitVec.getLsbD_append, BitVec.getLsbD_extractLsb', getLsbD_lowMask k hk]
    by_cases h : k < 32
    · simp [h]
    · simp [h]

/-- The high row's write: the low half is kept, the high half is the value's low one, RES0 bits 0 (R75). -/
theorem extReplaced_high {f m : Word} (hf : f &&& m = f) (d : Word) :
    (extReplaced .high f d &&& m) &&& 0xFFFFFFFF = f &&& 0xFFFFFFFF
      ∧ (extReplaced .high f d &&& m) >>> 32 = (d <<< 32 &&& m) >>> 32 := by
  have hbit : ∀ k, (f.getLsbD k && m.getLsbD k) = f.getLsbD k := fun k => by rw [← BitVec.getLsbD_and, hf]
  constructor
  · refine BitVec.eq_of_getLsbD_eq fun k hk => ?_
    simp only [extReplaced, BitVec.getLsbD_and, BitVec.getLsbD_append, BitVec.getLsbD_extractLsb', getLsbD_lowMask k hk]
    by_cases h : k < 32
    · simp only [h, if_true, Nat.zero_add, decide_true, Bool.true_and, Bool.and_true, hbit]
    · simp [h]
  · refine BitVec.eq_of_getLsbD_eq fun k hk => ?_
    simp only [extReplaced, BitVec.getLsbD_ushiftRight, BitVec.getLsbD_and, BitVec.getLsbD_append,
      BitVec.getLsbD_extractLsb', BitVec.getLsbD_shiftLeft, show ¬(32 + k < 32) by omega, if_false,
      Nat.add_sub_cancel_left]
    by_cases h : k < 32
    · simp [h, show 32 + k < 64 by omega]
    · simp [h, show ¬(32 + k < 64) by omega]

/-- Settles O52: the three rows, the RES0 bits of a legal PMCCFILTR_EL0 being 0 already. -/
theorem externalWriteReplacesItsRow : Obligations.ExternalWriteReplacesItsRow := by
  unfold Obligations.ExternalWriteReplacesItsRow
  intro s v rest hlegal hx
  obtain ⟨-, -, -, ⟨hres0, -⟩, hhpmn⟩ := hlegal
  have ha : StateAdmitted s := (stateAdmitted_iff s).mpr hhpmn
  refine ⟨fun hi h32 hp => ?_, fun hi h64 hp => ?_, fun hi h32 hth hp => ?_⟩
  · exact ⟨_, step_extWrite_reach ha .low v hi hx (if_pos h32) hp, extReplaced_low hres0 v⟩
  · exact step_extWrite_reach ha .whole v hi hx (if_pos h64) hp
  · exact ⟨_, step_extWrite_reach ha .high v hi hx (if_pos ((highHalfPresent_iff _).mpr ⟨h32, hth⟩)) hp,
      extReplaced_high hres0 v⟩

/-- A read that its checks refuse is refused by their reason. -/
theorem step_extRead_refused (ha : StateAdmitted s) {addr bits : Nat} {r : Refusal}
    (hi : s.inputs = .extRead addr bits :: rest)
    (hc : checkExtAccess (s.setInputs rest) addr bits false = .refuse r) : step s = .refused r := by
  rw [step_of_stateAdmitted ha hi]
  simp only [runMove, extRead, hc]

/-- A write that its checks refuse is refused by their reason. -/
theorem step_extWrite_refused (ha : StateAdmitted s) {addr bits : Nat} {v : Word} {r : Refusal}
    (hi : s.inputs = .extWrite addr bits v :: rest)
    (hc : checkExtAccess (s.setInputs rest) addr bits true = .refuse r) : step s = .refused r := by
  rw [step_of_stateAdmitted ha hi]
  simp only [runMove, extWrite, hc]

theorem step_ext_refused (ha : StateAdmitted s) {addr bits : Nat} {v : Word} {r : Refusal}
    (hc : ∀ w, checkExtAccess (s.setInputs rest) addr bits w = .refuse r)
    (hi : s.inputs = .extRead addr bits :: rest ∨ s.inputs = .extWrite addr bits v :: rest) : step s = .refused r :=
  hi.elim (fun hi => step_extRead_refused ha hi (hc false)) fun hi => step_extWrite_refused ha hi (hc true)

/-- A read or write at an absent row is refused by the row's reason. -/
theorem step_ext_absent (ha : StateAdmitted s) {v : Word} {r : Refusal} (row : ExtView)
    (hx : s.cfg.featPMUv3EXT = true) (hr : extAbsent s.cfg row = some r)
    (hi : s.inputs = .extRead (s.cfg.pmuBase + row.offset) row.size :: rest
      ∨ s.inputs = .extWrite (s.cfg.pmuBase + row.offset) row.size v :: rest) : step s = .refused r :=
  step_ext_refused ha (fun w => checkExtAccess_absent (s.setInputs rest) row w hx hr) hi

/-- Settles O53: the checks in their order, each with its own answer. -/
theorem externalAccessOutsideItsRowsIsRefused : Obligations.ExternalAccessOutsideItsRowsIsRefused := by
  unfold Obligations.ExternalAccessOutsideItsRowsIsRefused
  intro s addr bits v rest ha
  refine ⟨fun hrow hi => ?_, fun hrow hx => ⟨fun hi => ?_, fun hi => ?_⟩,
    fun hx hi => ⟨?_, ?_, ?_⟩, fun hx hrow hpresent => ⟨fun hi hp => ?_, fun hi hp => ?_⟩⟩
  · exact step_ext_refused ha (fun w => checkExtAccess_no_row (s.setInputs rest) w hrow) hi
  · obtain ⟨row, rfl, rfl⟩ := isExtRow_iff.mp hrow
    have hc : checkExtAccess (s.setInputs rest) (s.cfg.pmuBase + row.offset) row.size false = .res0 :=
      checkExtAccess_res0 (s.setInputs rest) row false hx
    rw [step_of_stateAdmitted ha hi]
    simp only [runMove, extRead, hc]
  · obtain ⟨row, rfl, rfl⟩ := isExtRow_iff.mp hrow
    have hc : checkExtAccess (s.setInputs rest) (s.cfg.pmuBase + row.offset) row.size true = .res0 :=
      checkExtAccess_res0 (s.setInputs rest) row true hx
    rw [step_of_stateAdmitted ha hi]
    simp only [runMove, extWrite, hc]
  · rintro rfl rfl h32
    exact step_ext_absent ha .low hx (if_neg (by simp [h32])) hi
  · rintro rfl rfl h64
    exact step_ext_absent ha .whole hx (if_neg (by simp [h64])) hi
  · rintro rfl rfl hhigh
    exact step_ext_absent ha .high hx (if_neg (mt (highHalfPresent_iff _).mp hhigh)) hi
  · obtain ⟨row, rfl, rfl⟩ := isExtRow_iff.mp hrow
    rw [Nat.add_sub_cancel_left] at hp
    exact step_extRead_refused ha hi
      ((checkExtAccess_present (s.setInputs rest) row false hx (extAbsent_eq_none hpresent)).trans (if_neg hp))
  · obtain ⟨row, rfl, rfl⟩ := isExtRow_iff.mp hrow
    rw [Nat.add_sub_cancel_left] at hp
    exact step_extWrite_refused ha hi
      ((checkExtAccess_present (s.setInputs rest) row true hx (extAbsent_eq_none hpresent)).trans (if_neg hp))

/-- Settles O54: the write through the window and the external read reach the one storage. -/
theorem windowWriteIsSeenExternally : Obligations.WindowWriteIsSeenExternally := by
  unfold Obligations.WindowWriteIsSeenExternally
  intro s w t rest ha hi hd hpmu h31 h0 h3 h2 hx h64 hp
  let s0 := s.setInputs (.extRead (s.cfg.pmuBase + 0x4F8) 64 :: rest)
  have hcount : decide (s.ctl.pmselrSel ≠ 31) = false := by simp [h31]
  obtain ⟨pc, h1⟩ := exec_msrPmxevtyper_unmasked (s := s0) t hpmu (.inl h31) (absurd · h0) h3 (hcount ▸ h2)
  rw [State.writeType_sel, if_pos (show s0.ctl.pmselrSel = 31 from h31)] at h1
  exact ⟨_, _, (step_supply ha hi hd).trans h1,
    step_extRead_reach (s := { s0.setPmccfiltr (s0.readX t &&& pmccfiltrKeep s0.cfg) with pc := pc }) ha .whole rfl hx
      (if_pos h64) hp, rfl⟩

end Sys2Proof.Machine
end

section
/-! What a completing move leaves, and the invariant it keeps (60_exceptions.md section 9, 70_reset_and_hazards.md). -/

namespace Sys2Proof.Machine

variable {s s' u : State} {m : HostMove}

/-- A reset of any of the three kinds with the start state `a` (R240 to R242). -/
abbrev IsReset (a : Arch) (m : HostMove) : Prop :=
  m = .warmReset a ∨ m = .coldReset a ∨ m = .externalDebugReset a

/-- What a move can complete with, from the state `s` with the move taken (R229); a move may leave `s` as it is. -/
inductive Moved (s : State) : HostMove → State → Prop where
  | instr {w : InstrWord} {u s' : State} (hu : Transfer s u) (hs' : s' = u.advance ∨ s' = u.advance.bumpDraws) :
      Moved s (.supply w) s'
  | enterDebug : Moved s .enterDebug ((s.setDspsr (savedPState s.cfg s.pstate)).setHalted true)
  | exitDebug (h4 : s.dspsr.getLsbD 4 = false) (hm : ReturnableMode s.cfg (s.dspsr.extractLsb' 0 4))
      (ha : (exitedState s).hpmnRefused = false) : Moved s .exitDebug (exitedState s)
  | extRead {addr bits : Nat} (v : Word) : Moved s (.extRead addr bits) (s.setExtReadData v)
  | extWrite {addr bits : Nat} {v : Word} (w : Word) : Moved s (.extWrite addr bits v) (s.writePmccfiltr w)
  | pmuCount {n : Nat} {v : Word} (hn : n < s.cfg.numCounters.val) : Moved s (.pmuCount n v) (s.writeCounter n v)
  | pmuCycle (v : Nat) : Moved s (.pmuCycle v) (s.setPmccntr v)
  | reset {m : HostMove} {a : Arch} {f : Word} (hm : IsReset a m) (ha : Arch.Legal s.cfg a)
      (hf : f = 0 ∨ f = a.pmccfiltr ∨ f = s.pmccfiltr) : Moved s m (s.setArch { a with pmccfiltr := f })
  | setControls {c : Controls} (ha : (s.setCtl c).hpmnRefused = false) : Moved s (.setControls c) (s.setCtl c)
  | idle (m : HostMove) : Moved s m s

theorem runWord_next {w : InstrWord} (h : runWord w s = .next s') : Moved s (.supply w) s' := by
  unfold runWord at h
  split at h
  · obtain ⟨u, hu, hs'⟩ := exec_next_transfer h
    exact .instr hu hs'
  · cases h

theorem enterDebug_next (h : enterDebug s = .next s') : Moved s .enterDebug s' := by
  unfold enterDebug at h
  split_ifs at h
  cases h
  exact .enterDebug

theorem exitToAArch32_ne_next (s s' : State) : exitToAArch32 s ≠ .next s' := by
  unfold exitToAArch32
  split_ifs <;> exact nofun

theorem exitDebug_next (h : exitDebug s = .next s') : Moved s .exitDebug s' := by
  unfold exitDebug exitToAArch64 at h
  split_ifs at h with _ h4 _ hm
  · exact absurd h (exitToAArch32_ne_next s s')
  · obtain ⟨rfl, ha⟩ := nextIfAdmitted_next h
    rw [Bool.not_eq_true', Bool.not_eq_false] at hm
    exact .exitDebug (by simpa using h4) ((modeLegal64_iff _ _).mp hm) ha

theorem extRead_next {addr bits : Nat} (h : extRead addr bits s = .next s') : Moved s (.extRead addr bits) s' := by
  unfold extRead at h
  split at h
  · cases h; exact .extRead _
  · cases h; exact .extRead _
  · cases h

theorem extWrite_next {addr bits : Nat} {v : Word} (h : extWrite addr bits v s = .next s') :
    Moved s (.extWrite addr bits v) s' := by
  unfold extWrite at h
  split at h
  · cases h; exact .extWrite _
  · cases h; exact .idle _
  · cases h

theorem pmuCount_next {n : Nat} {v : Word} (h : pmuCount n v s = .next s') : Moved s (.pmuCount n v) s' := by
  unfold pmuCount at h
  split_ifs at h with hn
  · cases h; exact .idle _
  · cases h; exact .pmuCount (by simpa using hn)

theorem pmuCycle_next {v : Nat} (h : pmuCycle v s = .next s') : Moved s (.pmuCycle v) s' := by
  unfold pmuCycle at h
  split_ifs at h
  · cases h; exact .idle _
  · cases h; exact .pmuCycle v

/-- A Warm or Cold reset from a legal draw: the draw, with PMCCFILTR_EL0 0 where the reset is to AArch32 (R241). -/
theorem warmReset_of_legal {a : Arch} (ha : Arch.Legal s.cfg a) :
    warmReset a s
      = .next (s.setArch { a with pmccfiltr := if s.cfg.resetToAArch32 then 0 else a.pmccfiltr }) := by
  rw [warmReset, if_pos ha]
  cases s.cfg.resetToAArch32 <;> rfl

theorem warmReset_next {a : Arch} (hm : IsReset a m) (h : warmReset a s = .next s') : Moved s m s' := by
  by_cases ha : Arch.Legal s.cfg a
  · rw [warmReset_of_legal ha] at h
    cases h
    refine .reset hm ha ?_
    split
    · exact .inl rfl
    · exact .inr (.inl rfl)
  · rw [warmReset, if_neg ha] at h
    cases h

theorem externalDebugReset_next {a : Arch} (h : externalDebugReset a s = .next s') :
    Moved s (.externalDebugReset a) s' := by
  unfold externalDebugReset at h
  split_ifs at h with ha
  cases h
  exact .reset (.inr (.inr rfl)) ha (.inr (.inr rfl))

theorem setControls_next {c : Controls} (h : setControls c s = .next s') : Moved s (.setControls c) s' := by
  obtain ⟨rfl, ha⟩ := nextIfAdmitted_next h
  exact .setControls ha

/-- What one move can do, said once (R229). -/
theorem runMove_next (h : runMove m s = .next s') : Moved s m s' := by
  cases m with
  | supply w => exact runWord_next h
  | enterDebug => exact enterDebug_next h
  | exitDebug => exact exitDebug_next h
  | extRead addr bits => exact extRead_next h
  | extWrite addr bits v => exact extWrite_next h
  | pmuCount n v => exact pmuCount_next h
  | pmuCycle v => exact pmuCycle_next h
  | warmReset a => exact warmReset_next (.inl rfl) h
  | coldReset a => exact warmReset_next (.inr (.inl rfl)) h
  | externalDebugReset a => exact externalDebugReset_next h
  | setControls c => exact setControls_next h

/-- A completing step made the next move of an admitted state. -/
theorem step_next_moved (h : step s = .next s') :
    s.hpmnRefused = false ∧ ∃ m rest, s.inputs = m :: rest ∧ Moved (s.setInputs rest) m s' := by
  obtain ⟨ha, m, rest, hi, hm⟩ := step_next h
  exact ⟨ha, m, rest, hi, runMove_next hm⟩

/-! ### What no move changes -/

theorem hpmnLegal_of_legal {c : Config} {a : Arch} (h : Arch.Legal c a) : Arch.HpmnLegal c a := by
  obtain ⟨-, -, -, -, hhpmn⟩ := h
  exact hhpmn

/-- A completed instruction keeps what no transfer writes, but for the pc. -/
theorem Transfer.completed_frame (hu : Transfer s u) (hs' : s' = u.advance ∨ s' = u.advance.bumpDraws) :
    s'.cfg = s.cfg ∧ s'.ctl = s.ctl ∧ s'.pstate = s.pstate := by
  have hframe := hu.sameControl
  obtain rfl | rfl := hs' <;> simp [hframe.cfg, hframe.ctl, hframe.pstate]

theorem Moved.cfg_eq (h : Moved s m s') : s'.cfg = s.cfg := by
  cases h with
  | instr hu hs' => exact (hu.completed_frame hs').1
  | enterDebug | exitDebug | extRead | extWrite | pmuCount | pmuCycle | reset | setControls | idle => rfl

/-- Only leaving Debug state and the resets write PSTATE. -/
theorem Moved.pstate_eq (h : Moved s m s') : s'.pstate = s.pstate ∨ m = .exitDebug ∨ ∃ a, IsReset a m := by
  cases h with
  | instr hu hs' => exact .inl (hu.completed_frame hs').2.2
  | exitDebug => exact .inr (.inl rfl)
  | reset hm => exact .inr (.inr ⟨_, hm⟩)
  | enterDebug | extRead | extWrite | pmuCount | pmuCycle | setControls | idle => exact .inl rfl

/-- R43 admits what a move leaves of an admitted state: a move that could leave another asks first (D10). -/
theorem Moved.hpmnRefused_eq_false (h : Moved s m s') (ha : s.hpmnRefused = false) : s'.hpmnRefused = false := by
  cases h with
  | instr hu hs' =>
    obtain ⟨hcfg, hctl, hpstate⟩ := hu.completed_frame hs'
    rwa [State.hpmnRefused_congr hcfg hctl (congrArg PState.el hpstate)]
  | exitDebug _ _ hadm => exact hadm
  | setControls hadm => exact hadm
  | @reset _ a _ _ hlegal => exact hpmnLegal_of_legal (a := a) hlegal
  | enterDebug | extRead | extWrite | pmuCount | pmuCycle | idle => exact ha

/-- Settles O59: by the move made. -/
theorem onlyDebugExitAndResetsChangePstate : Obligations.OnlyDebugExitAndResetsChangePstate := by
  unfold Obligations.OnlyDebugExitAndResetsChangePstate
  intro s s' m rest hi hstep hne
  obtain ⟨-, m', rest', hi', hm⟩ := step_next_moved hstep
  obtain ⟨rfl, rfl⟩ := List.cons.inj (hi.symm.trans hi')
  exact hm.pstate_eq.resolve_left hne

/-! ### Legality -/

/-- The counters a counter write leaves are legal: the counter written exists and takes a value of its width (R27). -/
theorem countersLegal_writeCounter {k : Nat} (hk : k < s.cfg.numCounters.val) (v : Word)
    (h : Arch.CountersLegal s.cfg s.toArch) : Arch.CountersLegal s.cfg (s.writeCounter k v).toArch := by
  obtain ⟨hwidth, habsent⟩ := h
  have hraw := fun n => State.rawEvcntr_writeCounter s k n v (lt_31_of_lt_numCounters hk)
  refine ⟨fun n hn => ?_, fun n hn hle => ⟨(hraw n).trans ?_, (habsent n hn hle).2⟩⟩
  · show (s.writeCounter k v).rawEvcntr n = counterValue s.cfg ((s.writeCounter k v).rawEvcntr n)
    rw [hraw]
    split
    · exact (counterValue_idem s.cfg v).symm
    · exact hwidth n hn
  · rw [if_neg (by omega)]
    exact (habsent n hn hle).1

/-- A type register written exists, so those that do not stay 0 (R30). -/
theorem countersLegal_setEvtyper {k : Nat} (hk : k < s.cfg.numCounters.val) (v : Word)
    (h : Arch.CountersLegal s.cfg s.toArch) : Arch.CountersLegal s.cfg (s.setEvtyper k v).toArch := by
  obtain ⟨hwidth, habsent⟩ := h
  refine ⟨hwidth, fun n hn hle => ⟨(habsent n hn hle).1, ?_⟩⟩
  show (s.setEvtyper k v).readEvtyper n = 0
  rw [State.readEvtyper_setEvtyper s k n v (lt_31_of_lt_numCounters hk), if_neg (by omega)]
  exact (habsent n hn hle).2

theorem masked_idem (v m : Word) : (v &&& m) &&& m = v &&& m := by
  rw [BitVec.and_assoc, BitVec.and_self]

/-- A register transfer keeps the counters and the RES0 bits legal (R27, R30, D5). -/
theorem Transfer.registersLegal (hu : Transfer s u) (hc : Arch.CountersLegal s.cfg s.toArch)
    (hr : Arch.Res0Legal s.cfg s.toArch) :
    Arch.CountersLegal s.cfg u.toArch ∧ Arch.Res0Legal s.cfg u.toArch := by
  cases hu with
  | none => exact ⟨hc, hr⟩
  | toX t v =>
    obtain ⟨x, hx⟩ := s.setX_eq_update t v
    rw [hx]
    exact ⟨hc, hr⟩
  | counter k v hk => exact ⟨countersLegal_writeCounter hk v hc, hr⟩
  | type k v hk =>
    unfold State.writeType
    split
    next => exact ⟨hc, masked_idem _ _, hr.2⟩
    next hne => exact ⟨countersLegal_setEvtyper (hk.resolve_left hne) v hc, hr⟩
  | dspsr v => exact ⟨hc, hr.1, res0Mask_idem _ _⟩

theorem Transfer.legal (hu : Transfer s u) (h : s.Legal) : u.Legal := by
  obtain ⟨hmode, hfields, hcounters, hres0, hhpmn⟩ := h
  have hframe := hu.sameControl
  obtain ⟨hcounters, hres0⟩ := hu.registersLegal hcounters hres0
  have hhpmn : u.hpmnRefused = false := by
    rwa [State.hpmnRefused_congr hframe.cfg hframe.ctl (congrArg PState.el hframe.pstate)]
  refine ⟨?_, ?_, hframe.cfg ▸ hcounters, hframe.cfg ▸ hres0, hhpmn⟩
  · rw [Arch.ModeLegal, hframe.cfg, hframe.pstate, hframe.security]
    exact hmode
  · rw [hframe.cfg, hframe.pstate]
    exact hfields

/-- The pc and the draw count are under no constraint. -/
theorem State.Legal.advance (h : u.Legal) : u.advance.Legal := by
  obtain ⟨pc, hpc⟩ := u.advance_eq_update
  rw [hpc]
  exact h

/-- The level and the stack pointer bit of a mode that is no illegal return (R23, R48). -/
theorem modeLegal_of_returnableMode {c : Config} {w : Word} (hm : ReturnableMode c (w.extractLsb' 0 4)) :
    haveEL c (elOfBits (w.extractLsb' 2 2)) = true
      ∧ (elOfBits (w.extractLsb' 2 2) = .el0 → w.getLsbD 0 = false) := by
  have hel : w.extractLsb' 2 2 = (w.extractLsb' 0 4).extractLsb' 2 2 := by
    refine BitVec.eq_of_getLsbD_eq fun k hk => ?_
    simp only [BitVec.getLsbD_extractLsb', Nat.zero_add, hk, show 2 + k < 4 by omega, decide_true, Bool.true_and]
  have hsp : w.getLsbD 0 = (w.extractLsb' 0 4).getLsbD 0 := by
    simp only [BitVec.getLsbD_extractLsb', Nat.add_zero, Nat.zero_lt_succ, decide_true, Bool.true_and]
  rw [hel, hsp]
  obtain h | h | h | ⟨h2, h | h⟩ | ⟨h3, h | h⟩ := hm
  · rw [h]; exact ⟨rfl, fun _ => rfl⟩
  · rw [h]; exact ⟨rfl, nofun⟩
  · rw [h]; exact ⟨rfl, nofun⟩
  · rw [h]; exact ⟨h2, nofun⟩
  · rw [h]; exact ⟨h2, nofun⟩
  · rw [h]; exact ⟨h3, nofun⟩
  · rw [h]; exact ⟨h3, nofun⟩

/-- A field that is copied back only with its feature is set only with it, if it was before. -/
theorem feature_of_restored {α : Type} {f : Bool} {b p : α} {P : α → Prop} (hp : P p → f = true)
    (h : P (if f then b else p)) : f = true := by
  cases f with
  | true => rfl
  | false => exact hp h

/-- The copies of an exit set no field whose feature is absent (R22, R187). -/
theorem legal_restoredPState {c : Config} {p : PState} (h : PState.Legal c p) (choice : SsChoice) (w : Word) :
    PState.Legal c (restoredPState c choice w p) := by
  obtain ⟨hpan, hdit, hssbs, huao, htco, hbtype, hcsr, haarch32⟩ := h
  exact ⟨feature_of_restored (P := (· = true)) hpan, feature_of_restored (P := (· = true)) hdit,
    feature_of_restored (P := (· = true)) hssbs, feature_of_restored (P := (· = true)) huao,
    feature_of_restored (P := (· = true)) htco, feature_of_restored (P := (· ≠ 0)) hbtype,
    feature_of_restored (P := (· = true)) hcsr, haarch32⟩

theorem legal_exitedState (h : s.Legal) (h4 : s.dspsr.getLsbD 4 = false)
    (hm : ReturnableMode s.cfg (s.dspsr.extractLsb' 0 4)) (ha : (exitedState s).hpmnRefused = false) :
    (exitedState s).Legal := by
  obtain ⟨⟨-, -, -, hrealm⟩, hfields, hcounters, hres0, -⟩ := h
  obtain ⟨hel, hsp⟩ := modeLegal_of_returnableMode hm
  exact ⟨⟨hel, hsp, h4, hrealm⟩, legal_restoredPState hfields _ _, hcounters, hres0, ha⟩

/-- A legal draw with another legal PMCCFILTR_EL0. -/
theorem legal_withFilter {c : Config} {a : Arch} {f : Word} (h : Arch.Legal c a) (hf : f &&& pmccfiltrKeep c = f) :
    Arch.Legal c { a with pmccfiltr := f } := by
  obtain ⟨hmode, hfields, hcounters, ⟨-, hdspsr⟩, hhpmn⟩ := h
  exact ⟨hmode, hfields, hcounters, ⟨hf, hdspsr⟩, hhpmn⟩

/-- Every move of every agent keeps the state legal. -/
theorem Moved.legal (hm : Moved s m s') (h : s.Legal) : s'.Legal := by
  have hkeep := h
  obtain ⟨hmode, hfields, hcounters, ⟨hfilter, hdspsr⟩, hhpmn⟩ := h
  cases hm with
  | instr hu hs' =>
    obtain rfl | rfl := hs'
    · exact (hu.legal hkeep).advance
    · exact (hu.legal hkeep).advance
  | enterDebug => exact ⟨hmode, hfields, hcounters, ⟨hfilter, res0Mask_savedPState _ _⟩, hhpmn⟩
  | exitDebug h4 hret ha => exact legal_exitedState hkeep h4 hret ha
  | extRead | pmuCycle | idle => exact hkeep
  | extWrite w => exact ⟨hmode, hfields, hcounters, ⟨masked_idem _ _, hdspsr⟩, hhpmn⟩
  | pmuCount hn => exact ⟨hmode, hfields, countersLegal_writeCounter hn _ hcounters, ⟨hfilter, hdspsr⟩, hhpmn⟩
  | setControls ha => exact ⟨hmode, hfields, hcounters, ⟨hfilter, hdspsr⟩, ha⟩
  | @reset _ a f _ ha hf =>
    refine legal_withFilter ha ?_
    obtain ⟨-, -, -, ⟨hdrawn, -⟩, -⟩ := ha
    obtain rfl | rfl | rfl := hf
    · exact BitVec.zero_and
    · exact hdrawn
    · exact hfilter

/-- Settles O57: the step takes the move from the queue, which is under no constraint, and makes it. -/
theorem everyStepKeepsTheStateLegal : Obligations.EveryStepKeepsTheStateLegal := by
  unfold Obligations.EveryStepKeepsTheStateLegal
  intro s s' hlegal hstep
  obtain ⟨-, m, rest, -, hm⟩ := step_next_moved hstep
  exact hm.legal (s := s.setInputs rest) hlegal

/-- Settles O58, by induction on the run. -/
theorem runsKeepLegalityAndConfiguration : Obligations.RunsKeepLegalityAndConfiguration := by
  unfold Obligations.RunsKeepLegalityAndConfiguration
  intro s s' hrun
  induction hrun with
  | refl => exact ⟨rfl, id⟩
  | step _ hstep ih =>
    obtain ⟨hcfg, hlegal⟩ := ih
    obtain ⟨-, m, rest, -, hm⟩ := step_next_moved hstep
    exact ⟨hm.cfg_eq.trans hcfg, fun h => everyStepKeepsTheStateLegal _ _ (hlegal h) hstep⟩

/-- Settles O56: the start state is closed, so its constraints are evaluated. -/
theorem resetStateIsLegal : Obligations.ResetStateIsLegal := by
  unfold Obligations.ResetStateIsLegal
  decide

/-! ### Resets, the controls, and the states R43 refuses -/

/-- Settles O60: the two outcomes of a legal draw. -/
theorem resetsTreatPmccfiltrAsStated : Obligations.ResetsTreatPmccfiltrAsStated := by
  unfold Obligations.ResetsTreatPmccfiltrAsStated
  intro s a rest ha hlegal
  refine ⟨fun hi => ?_, fun hi => ?_⟩
  · have hstep : step s = warmReset a (s.setInputs rest) :=
      hi.elim (fun hi => step_of_stateAdmitted ha hi) fun hi => step_of_stateAdmitted ha hi
    exact ⟨_, hstep.trans (warmReset_of_legal (s := s.setInputs rest) hlegal), rfl, rfl, rfl, rfl, rfl⟩
  · exact ⟨_, (step_of_stateAdmitted ha hi).trans (if_pos hlegal), rfl, rfl, rfl, rfl, rfl⟩

/-- Settles O55: the move asks R43 of the state it would leave. -/
theorem controlsMoveReplacesTheControlsOnly : Obligations.ControlsMoveReplacesTheControlsOnly := by
  unfold Obligations.ControlsMoveReplacesTheControlsOnly
  intro s c rest ha hi
  have hstep : step s = nextIfAdmitted ((s.setInputs rest).setCtl c) := step_of_stateAdmitted ha hi
  refine ⟨fun hadm => ⟨_, hstep.trans (nextIfAdmitted_of_stateAdmitted hadm), rfl, rfl, rfl⟩, fun hadm => ?_⟩
  exact hstep.trans (nextIfAdmitted_of_not_stateAdmitted hadm)

theorem step_of_not_stateAdmitted (h : ¬StateAdmitted s) : step s = .refused .hpmnOutOfRange := by
  rw [stateAdmitted_iff, Bool.not_eq_false] at h
  rw [step, runNext, if_pos h]

/-- An exit to EL2 leaves a state R43 refuses where HPMN is out of range (R44, D10). -/
theorem not_stateAdmitted_exitedState (hm : ReturnableMode s.cfg (s.dspsr.extractLsb' 0 4))
    (hbits : s.dspsr.extractLsb' 2 2 = 0b10) (hh : ¬HpmnAdmitted s) : ¬StateAdmitted (exitedState s) := by
  intro hadm
  have hel : (exitedState s).pstate.el = .el2 := (elOfBits_eq_el2_iff _).mpr hbits
  have hhave : s.cfg.haveEL2 = true := by
    have himpl : haveEL s.cfg (exitedState s).pstate.el = true := (modeLegal_of_returnableMode hm).1
    rwa [hel] at himpl
  have hcfg : (exitedState s).cfg.haveEL2 = true := hhave
  exact hh (hadm (by simp [pseudoEL2Enabled, hel, hcfg]))

/-- A draw that would leave a state R43 refuses is no legal one. -/
theorem not_legal_of_not_stateAdmitted {a : Arch} (h : ¬StateAdmitted (s.setArch a)) : ¬Arch.Legal s.cfg a :=
  fun hlegal => h ((stateAdmitted_iff _).mpr (hpmnLegal_of_legal hlegal))

/-- A reset from a draw that is not legal is refused (R242). -/
theorem runMove_reset_of_not_legal {a : Arch} (ha : ¬Arch.Legal s.cfg a) (hm : IsReset a m) :
    runMove m s = .refused .illegalStartState := by
  obtain rfl | rfl | rfl := hm
  · exact if_neg ha
  · exact if_neg ha
  · exact if_neg ha

/-- Settles O31: the step's own check, what a move leaves, and the checks of an exit to EL2 and of a reset. -/
theorem refusedHpmnStatesNeitherStepNorArise : Obligations.RefusedHpmnStatesNeitherStepNorArise := by
  unfold Obligations.RefusedHpmnStatesNeitherStepNorArise
  refine fun s => ⟨step_of_not_stateAdmitted, fun s' hstep => ?_, fun rest ha hi hh h64 h4 hm hbits hout => ?_,
    fun a rest ha hadm hi => ?_⟩
  · obtain ⟨ha, m, rest, -, hm⟩ := step_next_moved hstep
    exact (stateAdmitted_iff s').mpr (hm.hpmnRefused_eq_false ha)
  · rw [step_exitDebug_of_returnable ha hi hh h64 h4 hm]
    exact nextIfAdmitted_of_not_stateAdmitted (not_stateAdmitted_exitedState (s := s.setInputs rest) hm hbits hout)
  · have hreset : ∃ m, IsReset a m ∧ s.inputs = m :: rest := by
      obtain hi | hi | hi := hi
      · exact ⟨_, .inl rfl, hi⟩
      · exact ⟨_, .inr (.inl rfl), hi⟩
      · exact ⟨_, .inr (.inr rfl), hi⟩
    obtain ⟨m, hm, hi⟩ := hreset
    rw [step_of_stateAdmitted ha hi]
    exact runMove_reset_of_not_legal (s := s.setInputs rest) (not_legal_of_not_stateAdmitted hadm) hm

end Sys2Proof.Machine
end
